-- ==== Sys2Proof/Word.lean ====
section
/-! DEFINITION. The word types of the edudaq capture engine: an operation word and a result (R80, R88), a sample
(R8, parameter SW), a 24-bit operand (R84). -/

namespace Sys2Proof

/-- An operation word, and a result word: 32 bits, bit 0 least significant (R80, R10). -/
abbrev Word := BitVec 32

/-- One sample, one slot of the circular buffer: SW = 10 bits, unsigned (R8, R25). -/
abbrev Sample := BitVec 10

/-- The 24-bit unsigned operand `imm` or `i` (R84), and the width of a staged register (R21). -/
abbrev Imm24 := BitVec 24

end Sys2Proof
end

