-- ==== Sys2Proof/Config.lean ====
section
/-! DEFINITION. The parameters of R8 with this hardware's values, and the open parameter ARB_ORDER as a free value.
The parameter DEFAULTS is `Sys2Proof.Machine.defaultRequest` in Machine/Configuration.lean. -/

namespace Sys2Proof

/-- Absolute buffer capacity in sample slots (R8). -/
def Config.CAP : Nat := 1200

/-- Largest channel count (R8). -/
def Config.MAXCH : Nat := 6

/-- Sample width in bits (R8). -/
def Config.SW : Nat := 10

/-- Largest threshold, `2^SW - 1` (R8). -/
def Config.MAXTHR : Nat := 1023

/-- Largest sample period (R8). -/
def Config.MAXPER : Nat := 900000

/-- Largest acquisition delay (R8). -/
def Config.MAXDLY : Nat := 2000

/-- Smallest samples-per-channel count (R8). -/
def Config.MINNS : Nat := 2

/-- Largest throttle skip count (R8). -/
def Config.MAXSKIP : Nat := 65535

/-- Width of a buffer index, of `nS`, `pre`, `supCnt` (R8). -/
def Config.IW : Nat := 11

/-- Width of `dly` and `dlyCnt` (R8). -/
def Config.DW : Nat := 11

/-- Width of `period` (R8). -/
def Config.PW : Nat := 20

/-- Width of a channel number (R8). -/
def Config.CW : Nat := 3

/-- The three input ports of R5. -/
inductive Port where
  /-- the sample port: a strobe with a 10-bit value, producing SAMPLE -/
  | sample
  /-- the trigger port: a strobe, producing EXTTRIG -/
  | trig
  /-- the host port: a 32-bit operation word -/
  | host
deriving DecidableEq, Repr, Inhabited

/-- The six orders in which the arbiter can serialise simultaneous events of the three ports (R69, R236). A name
spells its order: T the trigger port, S the sample port, H the host port. -/
inductive ArbOrder where
  | TSH | THS | STH | SHT | HTS | HST
deriving DecidableEq, Repr, Inhabited

/-- The parameter ARB_ORDER (R8, R69, R236): the order in which events of one instant are serialised. A FREE VALUE
(DESIGN CHOICE of its form, log 2): nothing constrains it, so a claim about the model holds for every order. It is
applied to the counter `arbSeq` of the state, so that every instant may be served in another order. -/
opaque Config.arbOrder : Nat → ArbOrder

end Sys2Proof
end

