-- ==== Sys2Proof/Syntax.lean ====
section
/-! DEFINITION. The operations as syntax: one constructor of `Instr` per row of opcode_table.json (R82, R87). The
`idx` operand of WRCFG, RDCFG and RDREG and the `ch` operand of RDLIVE are folded into the constructor (log 13); every
other operand has exactly the width of its field (R81, R84). -/

namespace Sys2Proof

/-- The configuration fields, in the field numbering 0 to 9 of R22 and R85. -/
inductive CfgField where
  | nCh
  | period
  | mode
  | tch
  | thr
  | pre
  | dly
  | nS
  | res
  | skip
deriving DecidableEq, Repr

/-- The engine registers readable by RDREG, in the numbering 0 to 9 of R41 and R85. -/
inductive EngReg where
  | status
  | pivot
  | start
  | dlyCnt
  | supCnt
  | bufSize
  | curChan
  | skipCnt
  | cap
  | maxch
deriving DecidableEq, Repr

/-- The sixteen operations of R82, one constructor per row of opcode_table.json. A word that encodes none of them is
ILLEGAL (R86, R223) and is no `Instr`. -/
inductive Instr where
  /-- NOP (R220) -/
  | nop
  /-- SAMPLE `v`: one conversion result for channel `curChan` (R162) -/
  | sample (v : Sample)
  /-- EXTTRIG: an external trigger event (R140) -/
  | exttrig
  /-- SUSPEND the sampling context (R170) -/
  | suspend
  /-- RESUME the sampling context (R171) -/
  | resume
  /-- WRCFG `nCh`, `imm`: stage a configuration value (R181) -/
  | wrcfgNCh (imm : Imm24)
  /-- WRCFG `period`, `imm`: stage a configuration value (R181) -/
  | wrcfgPeriod (imm : Imm24)
  /-- WRCFG `mode`, `imm`: stage a configuration value (R181) -/
  | wrcfgMode (imm : Imm24)
  /-- WRCFG `tch`, `imm`: stage a configuration value (R181) -/
  | wrcfgTch (imm : Imm24)
  /-- WRCFG `thr`, `imm`: stage a configuration value (R181) -/
  | wrcfgThr (imm : Imm24)
  /-- WRCFG `pre`, `imm`: stage a configuration value (R181) -/
  | wrcfgPre (imm : Imm24)
  /-- WRCFG `dly`, `imm`: stage a configuration value (R181) -/
  | wrcfgDly (imm : Imm24)
  /-- WRCFG `nS`, `imm`: stage a configuration value (R181) -/
  | wrcfgNS (imm : Imm24)
  /-- WRCFG `res`, `imm`: stage a configuration value (R181) -/
  | wrcfgRes (imm : Imm24)
  /-- WRCFG `skip`, `imm`: stage a configuration value (R181) -/
  | wrcfgSkip (imm : Imm24)
  /-- APPLY; `fbr` forces a buffer reset (R182) -/
  | apply (fbr : Bool)
  /-- RDCFG `nCh`: the active field, or with `st` the staged one (R188) -/
  | rdcfgNCh (st : Bool)
  /-- RDCFG `period`: the active field, or with `st` the staged one (R188) -/
  | rdcfgPeriod (st : Bool)
  /-- RDCFG `mode`: the active field, or with `st` the staged one (R188) -/
  | rdcfgMode (st : Bool)
  /-- RDCFG `tch`: the active field, or with `st` the staged one (R188) -/
  | rdcfgTch (st : Bool)
  /-- RDCFG `thr`: the active field, or with `st` the staged one (R188) -/
  | rdcfgThr (st : Bool)
  /-- RDCFG `pre`: the active field, or with `st` the staged one (R188) -/
  | rdcfgPre (st : Bool)
  /-- RDCFG `dly`: the active field, or with `st` the staged one (R188) -/
  | rdcfgDly (st : Bool)
  /-- RDCFG `nS`: the active field, or with `st` the staged one (R188) -/
  | rdcfgNS (st : Bool)
  /-- RDCFG `res`: the active field, or with `st` the staged one (R188) -/
  | rdcfgRes (st : Bool)
  /-- RDCFG `skip`: the active field, or with `st` the staged one (R188) -/
  | rdcfgSkip (st : Bool)
  /-- RDREG STATUS (R189) -/
  | rdregStatus
  /-- RDREG pivot (R189) -/
  | rdregPivot
  /-- RDREG start (R189) -/
  | rdregStart
  /-- RDREG dlyCnt (R189) -/
  | rdregDlyCnt
  /-- RDREG supCnt (R189) -/
  | rdregSupCnt
  /-- RDREG bufSize (R189) -/
  | rdregBufSize
  /-- RDREG curChan (R189) -/
  | rdregCurChan
  /-- RDREG skipCnt (R189) -/
  | rdregSkipCnt
  /-- RDREG CAP (R189) -/
  | rdregCap
  /-- RDREG MAXCH (R189) -/
  | rdregMaxCh
  /-- RDBUF `i`: a slot by absolute index (R115) -/
  | rdbuf (i : Imm24)
  /-- RDWIN `i`: a slot by window offset (R201) -/
  | rdwin (i : Imm24)
  /-- RDTS.L (`h` false) or RDTS.H (`h` true) `i`: the relative timestamp (R205) -/
  | rdts (h : Bool) (i : Imm24)
  /-- RDLIVE 0 (R207) -/
  | rdlive0
  /-- RDLIVE 1 (R207) -/
  | rdlive1
  /-- RDLIVE 2 (R207) -/
  | rdlive2
  /-- RDLIVE 3 (R207) -/
  | rdlive3
  /-- RDLIVE 4 (R207) -/
  | rdlive4
  /-- RDLIVE 5 (R207) -/
  | rdlive5
  /-- ACKLIVE: clear `liveAvail` (R208) -/
  | acklive
  /-- ACKCAP: acknowledge a drained window (R172) -/
  | ackcap
  /-- RESET (R221) -/
  | reset
deriving DecidableEq, Repr

/-- The row of opcode_table.json an operation belongs to, by its mnemonic. -/
def Instr.mnemonic : Instr → String
  | .nop => "NOP"
  | .sample _ => "SAMPLE"
  | .exttrig => "EXTTRIG"
  | .suspend => "SUSPEND"
  | .resume => "RESUME"
  | .wrcfgNCh _ => "WRCFG_nCh"
  | .wrcfgPeriod _ => "WRCFG_period"
  | .wrcfgMode _ => "WRCFG_mode"
  | .wrcfgTch _ => "WRCFG_tch"
  | .wrcfgThr _ => "WRCFG_thr"
  | .wrcfgPre _ => "WRCFG_pre"
  | .wrcfgDly _ => "WRCFG_dly"
  | .wrcfgNS _ => "WRCFG_nS"
  | .wrcfgRes _ => "WRCFG_res"
  | .wrcfgSkip _ => "WRCFG_skip"
  | .apply _ => "APPLY"
  | .rdcfgNCh _ => "RDCFG_nCh"
  | .rdcfgPeriod _ => "RDCFG_period"
  | .rdcfgMode _ => "RDCFG_mode"
  | .rdcfgTch _ => "RDCFG_tch"
  | .rdcfgThr _ => "RDCFG_thr"
  | .rdcfgPre _ => "RDCFG_pre"
  | .rdcfgDly _ => "RDCFG_dly"
  | .rdcfgNS _ => "RDCFG_nS"
  | .rdcfgRes _ => "RDCFG_res"
  | .rdcfgSkip _ => "RDCFG_skip"
  | .rdregStatus => "RDREG_STATUS"
  | .rdregPivot => "RDREG_pivot"
  | .rdregStart => "RDREG_start"
  | .rdregDlyCnt => "RDREG_dlyCnt"
  | .rdregSupCnt => "RDREG_supCnt"
  | .rdregBufSize => "RDREG_bufSize"
  | .rdregCurChan => "RDREG_curChan"
  | .rdregSkipCnt => "RDREG_skipCnt"
  | .rdregCap => "RDREG_CAP"
  | .rdregMaxCh => "RDREG_MAXCH"
  | .rdbuf _ => "RDBUF"
  | .rdwin _ => "RDWIN"
  | .rdts _ _ => "RDTS"
  | .rdlive0 => "RDLIVE_0"
  | .rdlive1 => "RDLIVE_1"
  | .rdlive2 => "RDLIVE_2"
  | .rdlive3 => "RDLIVE_3"
  | .rdlive4 => "RDLIVE_4"
  | .rdlive5 => "RDLIVE_5"
  | .acklive => "ACKLIVE"
  | .ackcap => "ACKCAP"
  | .reset => "RESET"

end Sys2Proof
end

