-- ==== Sys2Proof/WellFormed.lean ====
section
/-! DEFINITION. What a legal operation word is, written from the format table and from the rule for illegal words
(R81, R82, R86) and again from the match-and-mask table (R87). The decoder (Decode.lean) is written apart from both.
An `Instr` needs no check of its own: its operands have the widths of their fields, so every term is well formed. -/

namespace Sys2Proof

/-- The nine formats of R81. -/
inductive Format where
  | Z | V | W | A | C | G | X | T | L
deriving DecidableEq, Repr

/-- The format of each opcode 0x0 to 0xF (R82). -/
def Format.ofOpcode : Nat → Format
  | 0x1 => .V
  | 0x5 => .W
  | 0x6 => .A
  | 0x7 => .C
  | 0x8 => .G
  | 0x9 => .X
  | 0xA => .X
  | 0xB => .T
  | 0xC => .L
  | _ => .Z

/-- The bits a format marks "zero" (R81), as a mask over the word. -/
def Format.zeroBits : Format → Word
  | .Z => 0x0FFFFFFF
  | .V => 0x0FFFFC00
  | .W => 0x00000000
  | .A => 0x0FFFFFFE
  | .C => 0x00FFFFFE
  | .G => 0x00FFFFFF
  | .X => 0x0F000000
  | .T => 0x0E000000
  | .L => 0x0FFFFFF8

/-- The format has the operand `idx` in bits 27:24 (R81). -/
def Format.hasIdx : Format → Bool
  | .W => true
  | .C => true
  | .G => true
  | .Z => false
  | .V => false
  | .A => false
  | .X => false
  | .T => false
  | .L => false

/-- Check 1 of R86: the "zero" fields of the word's format are zero. -/
def zeroFieldsClear (w : Word) : Bool :=
  (w &&& (Format.ofOpcode (w.toNat / 2 ^ 28)).zeroBits) == 0

/-- Check 2 of R86: a word of format W, C or G has `idx` at most 9. -/
def idxInRange (w : Word) : Bool :=
  !(Format.ofOpcode (w.toNat / 2 ^ 28)).hasIdx || decide (w.toNat / 2 ^ 24 % 16 < 10)

/-- Check 3 of R86: RDLIVE has `ch` below MAXCH. -/
def liveChannelInRange (w : Word) : Bool :=
  !(w.toNat / 2 ^ 28 == 0xC) || decide (w.toNat % 8 < Config.MAXCH)

/-- A word is legal when none of the three conditions of R86 holds. -/
def legalWord (w : Word) : Bool :=
  zeroFieldsClear w && idxInRange w && liveChannelInRange w

/-- One row of the table of R87. -/
structure TableRow where
  mnemonic : String
  pat : Word
  mask : Word
deriving DecidableEq, Repr

/-- A word selects a row iff `(w AND mask) = match` (R87). -/
def TableRow.selects (r : TableRow) (w : Word) : Bool := (w &&& r.mask) == r.pat

/-- Rows of R87: NOP, SAMPLE, EXTTRIG, SUSPEND, RESUME, APPLY. -/
def rowsPlain : List TableRow :=
  [⟨"NOP", 0x00000000, 0xFFFFFFFF⟩,
   ⟨"SAMPLE", 0x10000000, 0xFFFFFC00⟩,
   ⟨"EXTTRIG", 0x20000000, 0xFFFFFFFF⟩,
   ⟨"SUSPEND", 0x30000000, 0xFFFFFFFF⟩,
   ⟨"RESUME", 0x40000000, 0xFFFFFFFF⟩,
   ⟨"APPLY", 0x60000000, 0xFFFFFFFE⟩]

/-- Rows of R87: WRCFG, one per field. -/
def rowsWrcfg : List TableRow :=
  [⟨"WRCFG_nCh", 0x50000000, 0xFF000000⟩,
   ⟨"WRCFG_period", 0x51000000, 0xFF000000⟩,
   ⟨"WRCFG_mode", 0x52000000, 0xFF000000⟩,
   ⟨"WRCFG_tch", 0x53000000, 0xFF000000⟩,
   ⟨"WRCFG_thr", 0x54000000, 0xFF000000⟩,
   ⟨"WRCFG_pre", 0x55000000, 0xFF000000⟩,
   ⟨"WRCFG_dly", 0x56000000, 0xFF000000⟩,
   ⟨"WRCFG_nS", 0x57000000, 0xFF000000⟩,
   ⟨"WRCFG_res", 0x58000000, 0xFF000000⟩,
   ⟨"WRCFG_skip", 0x59000000, 0xFF000000⟩]

/-- Rows of R87: RDCFG, one per field. -/
def rowsRdcfg : List TableRow :=
  [⟨"RDCFG_nCh", 0x70000000, 0xFFFFFFFE⟩,
   ⟨"RDCFG_period", 0x71000000, 0xFFFFFFFE⟩,
   ⟨"RDCFG_mode", 0x72000000, 0xFFFFFFFE⟩,
   ⟨"RDCFG_tch", 0x73000000, 0xFFFFFFFE⟩,
   ⟨"RDCFG_thr", 0x74000000, 0xFFFFFFFE⟩,
   ⟨"RDCFG_pre", 0x75000000, 0xFFFFFFFE⟩,
   ⟨"RDCFG_dly", 0x76000000, 0xFFFFFFFE⟩,
   ⟨"RDCFG_nS", 0x77000000, 0xFFFFFFFE⟩,
   ⟨"RDCFG_res", 0x78000000, 0xFFFFFFFE⟩,
   ⟨"RDCFG_skip", 0x79000000, 0xFFFFFFFE⟩]

/-- Rows of R87: RDREG, one per register. -/
def rowsRdreg : List TableRow :=
  [⟨"RDREG_STATUS", 0x80000000, 0xFFFFFFFF⟩,
   ⟨"RDREG_pivot", 0x81000000, 0xFFFFFFFF⟩,
   ⟨"RDREG_start", 0x82000000, 0xFFFFFFFF⟩,
   ⟨"RDREG_dlyCnt", 0x83000000, 0xFFFFFFFF⟩,
   ⟨"RDREG_supCnt", 0x84000000, 0xFFFFFFFF⟩,
   ⟨"RDREG_bufSize", 0x85000000, 0xFFFFFFFF⟩,
   ⟨"RDREG_curChan", 0x86000000, 0xFFFFFFFF⟩,
   ⟨"RDREG_skipCnt", 0x87000000, 0xFFFFFFFF⟩,
   ⟨"RDREG_CAP", 0x88000000, 0xFFFFFFFF⟩,
   ⟨"RDREG_MAXCH", 0x89000000, 0xFFFFFFFF⟩]

/-- Rows of R87: the readout operations, RDLIVE one per channel. -/
def rowsReadout : List TableRow :=
  [⟨"RDBUF", 0x90000000, 0xFF000000⟩,
   ⟨"RDWIN", 0xA0000000, 0xFF000000⟩,
   ⟨"RDTS", 0xB0000000, 0xFE000000⟩,
   ⟨"RDLIVE_0", 0xC0000000, 0xFFFFFFFF⟩,
   ⟨"RDLIVE_1", 0xC0000001, 0xFFFFFFFF⟩,
   ⟨"RDLIVE_2", 0xC0000002, 0xFFFFFFFF⟩,
   ⟨"RDLIVE_3", 0xC0000003, 0xFFFFFFFF⟩,
   ⟨"RDLIVE_4", 0xC0000004, 0xFFFFFFFF⟩,
   ⟨"RDLIVE_5", 0xC0000005, 0xFFFFFFFF⟩]

/-- Rows of R87: ACKLIVE, ACKCAP, RESET. -/
def rowsAck : List TableRow :=
  [⟨"ACKLIVE", 0xD0000000, 0xFFFFFFFF⟩,
   ⟨"ACKCAP", 0xE0000000, 0xFFFFFFFF⟩,
   ⟨"RESET", 0xF0000000, 0xFFFFFFFF⟩]

/-- The table of R87 and opcode_table.json, all 48 rows. -/
def tableRows : List TableRow :=
  rowsPlain ++ rowsWrcfg ++ rowsRdcfg ++ rowsRdreg ++ rowsReadout ++ rowsAck

end Sys2Proof
end

