-- ==== Sys2Proof/Decode.lean ====
section
/-! DEFINITION. The decoder of operation words (R80 to R87), total on every 32-bit word, and the encoder. A word that
is none of the sixteen operations decodes to `none`: it is ILLEGAL (R86) and `Sys2Proof.Machine.execIllegal` performs
it. -/

namespace Sys2Proof

/-- The opcode, bits 31:28 (R80). -/
def fieldOp (w : Word) : BitVec 4 := w.extractLsb' 28 4

/-- Bits 27:24: `idx`, a zero field, or the bit `h` (R81). -/
def fieldMid (w : Word) : BitVec 4 := w.extractLsb' 24 4

/-- Bits 23:0 (R81). -/
def fieldLow (w : Word) : Imm24 := w.extractLsb' 0 24

/-- A word from its three fields (R81). -/
def mkWord (op mid : BitVec 4) (low : Imm24) : Word := op ++ mid ++ low

/-- A one-bit operand in bit 0 of an otherwise zero field (formats A and C of R81). -/
def bitOperand (b : Bool) : Imm24 := if b then 1 else 0

/-- Format Z: both operand fields are zero (R81). -/
def decodeZ (i : Instr) (mid : BitVec 4) (low : Imm24) : Option Instr :=
  if mid = 0 ∧ low = 0 then some i else none

/-- Format V: bits 27:10 are zero and bits 9:0 are `v` (R81, D31). -/
def decodeSample (mid : BitVec 4) (low : Imm24) : Option Instr :=
  if mid = 0 ∧ low.toNat < 1024 then some (.sample (low.setWidth 10)) else none

/-- Format W: WRCFG `idx`, `imm` with `idx` from 0 to 9 (R81, R85). -/
def decodeWrcfg (mid : BitVec 4) (low : Imm24) : Option Instr :=
  match mid.toNat with
  | 0 => some (.wrcfgNCh low)
  | 1 => some (.wrcfgPeriod low)
  | 2 => some (.wrcfgMode low)
  | 3 => some (.wrcfgTch low)
  | 4 => some (.wrcfgThr low)
  | 5 => some (.wrcfgPre low)
  | 6 => some (.wrcfgDly low)
  | 7 => some (.wrcfgNS low)
  | 8 => some (.wrcfgRes low)
  | 9 => some (.wrcfgSkip low)
  | _ => none

/-- The bit operand of formats A and C: bits 23:1 are zero and bit 0 is the operand (R81). -/
def decodeBit (low : Imm24) : Option Bool :=
  if low = 0 then some false else if low = 1 then some true else none

/-- Format A: APPLY `fbr` (R81). -/
def decodeApply (mid : BitVec 4) (low : Imm24) : Option Instr :=
  if mid = 0 then (decodeBit low).map .apply else none

/-- Format C: RDCFG `idx`, `st` with `idx` from 0 to 9 (R81, R85). -/
def decodeRdcfg (mid : BitVec 4) (low : Imm24) : Option Instr :=
  match mid.toNat with
  | 0 => (decodeBit low).map .rdcfgNCh
  | 1 => (decodeBit low).map .rdcfgPeriod
  | 2 => (decodeBit low).map .rdcfgMode
  | 3 => (decodeBit low).map .rdcfgTch
  | 4 => (decodeBit low).map .rdcfgThr
  | 5 => (decodeBit low).map .rdcfgPre
  | 6 => (decodeBit low).map .rdcfgDly
  | 7 => (decodeBit low).map .rdcfgNS
  | 8 => (decodeBit low).map .rdcfgRes
  | 9 => (decodeBit low).map .rdcfgSkip
  | _ => none

/-- Format G: RDREG `idx` with `idx` from 0 to 9 (R81, R85). -/
def decodeRdreg (mid : BitVec 4) (low : Imm24) : Option Instr :=
  if low = 0 then
    match mid.toNat with
    | 0 => some .rdregStatus
    | 1 => some .rdregPivot
    | 2 => some .rdregStart
    | 3 => some .rdregDlyCnt
    | 4 => some .rdregSupCnt
    | 5 => some .rdregBufSize
    | 6 => some .rdregCurChan
    | 7 => some .rdregSkipCnt
    | 8 => some .rdregCap
    | 9 => some .rdregMaxCh
    | _ => none
  else none

/-- Format X: RDBUF `i` (R81). -/
def decodeRdbuf (mid : BitVec 4) (low : Imm24) : Option Instr :=
  if mid = 0 then some (.rdbuf low) else none

/-- Format X: RDWIN `i` (R81). -/
def decodeRdwin (mid : BitVec 4) (low : Imm24) : Option Instr :=
  if mid = 0 then some (.rdwin low) else none

/-- Format T: bits 27:25 are zero, bit 24 is `h` (R81). -/
def decodeRdts (mid : BitVec 4) (low : Imm24) : Option Instr :=
  if mid = 0 then some (.rdts false low) else if mid = 1 then some (.rdts true low) else none

/-- Format L: RDLIVE `ch` with `ch` from 0 to 5 (R81, R86). -/
def decodeRdlive (mid : BitVec 4) (low : Imm24) : Option Instr :=
  if mid = 0 then
    match low.toNat with
    | 0 => some .rdlive0
    | 1 => some .rdlive1
    | 2 => some .rdlive2
    | 3 => some .rdlive3
    | 4 => some .rdlive4
    | 5 => some .rdlive5
    | _ => none
  else none

/-- The decoder: an operation, or `none` for an ILLEGAL word (R80 to R87). It reads no state. -/
def decode (w : Word) : Option Instr :=
  match (fieldOp w).toNat with
  | 0x0 => decodeZ .nop (fieldMid w) (fieldLow w)
  | 0x1 => decodeSample (fieldMid w) (fieldLow w)
  | 0x2 => decodeZ .exttrig (fieldMid w) (fieldLow w)
  | 0x3 => decodeZ .suspend (fieldMid w) (fieldLow w)
  | 0x4 => decodeZ .resume (fieldMid w) (fieldLow w)
  | 0x5 => decodeWrcfg (fieldMid w) (fieldLow w)
  | 0x6 => decodeApply (fieldMid w) (fieldLow w)
  | 0x7 => decodeRdcfg (fieldMid w) (fieldLow w)
  | 0x8 => decodeRdreg (fieldMid w) (fieldLow w)
  | 0x9 => decodeRdbuf (fieldMid w) (fieldLow w)
  | 0xA => decodeRdwin (fieldMid w) (fieldLow w)
  | 0xB => decodeRdts (fieldMid w) (fieldLow w)
  | 0xC => decodeRdlive (fieldMid w) (fieldLow w)
  | 0xD => decodeZ .acklive (fieldMid w) (fieldLow w)
  | 0xE => decodeZ .ackcap (fieldMid w) (fieldLow w)
  | 0xF => decodeZ .reset (fieldMid w) (fieldLow w)
  | _ => none

/-- The encoder: the one word of an operation (R81, R82, R87). -/
def encode : Instr → Word
  | .nop => mkWord 0x0 0 0
  | .sample v => mkWord 0x1 0 (v.setWidth 24)
  | .exttrig => mkWord 0x2 0 0
  | .suspend => mkWord 0x3 0 0
  | .resume => mkWord 0x4 0 0
  | .wrcfgNCh imm => mkWord 0x5 0 imm
  | .wrcfgPeriod imm => mkWord 0x5 1 imm
  | .wrcfgMode imm => mkWord 0x5 2 imm
  | .wrcfgTch imm => mkWord 0x5 3 imm
  | .wrcfgThr imm => mkWord 0x5 4 imm
  | .wrcfgPre imm => mkWord 0x5 5 imm
  | .wrcfgDly imm => mkWord 0x5 6 imm
  | .wrcfgNS imm => mkWord 0x5 7 imm
  | .wrcfgRes imm => mkWord 0x5 8 imm
  | .wrcfgSkip imm => mkWord 0x5 9 imm
  | .apply fbr => mkWord 0x6 0 (bitOperand fbr)
  | .rdcfgNCh st => mkWord 0x7 0 (bitOperand st)
  | .rdcfgPeriod st => mkWord 0x7 1 (bitOperand st)
  | .rdcfgMode st => mkWord 0x7 2 (bitOperand st)
  | .rdcfgTch st => mkWord 0x7 3 (bitOperand st)
  | .rdcfgThr st => mkWord 0x7 4 (bitOperand st)
  | .rdcfgPre st => mkWord 0x7 5 (bitOperand st)
  | .rdcfgDly st => mkWord 0x7 6 (bitOperand st)
  | .rdcfgNS st => mkWord 0x7 7 (bitOperand st)
  | .rdcfgRes st => mkWord 0x7 8 (bitOperand st)
  | .rdcfgSkip st => mkWord 0x7 9 (bitOperand st)
  | .rdregStatus => mkWord 0x8 0 0
  | .rdregPivot => mkWord 0x8 1 0
  | .rdregStart => mkWord 0x8 2 0
  | .rdregDlyCnt => mkWord 0x8 3 0
  | .rdregSupCnt => mkWord 0x8 4 0
  | .rdregBufSize => mkWord 0x8 5 0
  | .rdregCurChan => mkWord 0x8 6 0
  | .rdregSkipCnt => mkWord 0x8 7 0
  | .rdregCap => mkWord 0x8 8 0
  | .rdregMaxCh => mkWord 0x8 9 0
  | .rdbuf i => mkWord 0x9 0 i
  | .rdwin i => mkWord 0xA 0 i
  | .rdts h i => mkWord 0xB (if h then 1 else 0) i
  | .rdlive0 => mkWord 0xC 0 0
  | .rdlive1 => mkWord 0xC 0 1
  | .rdlive2 => mkWord 0xC 0 2
  | .rdlive3 => mkWord 0xC 0 3
  | .rdlive4 => mkWord 0xC 0 4
  | .rdlive5 => mkWord 0xC 0 5
  | .acklive => mkWord 0xD 0 0
  | .ackcap => mkWord 0xE 0 0
  | .reset => mkWord 0xF 0 0

/-- An instruction of the opcode table as one number: its low `nbits` bits, every higher bit zero (log 13). Every
operation is one 32-bit word (R80), so the number is the word. -/
def tableWord (nbits w : Nat) : Word := BitVec.ofNat 32 (w % 2 ^ nbits)

/-- What the decoder reads from an instruction whose bits are `w`. -/
def decodeTableWord (nbits w : Nat) : Option Instr := decode (tableWord nbits w)

end Sys2Proof
end

