-- ==== Sys2Proof/Machine/State.lean ====
section
/-! DEFINITION. The state of the capture engine as plain data (R20 to R39), the state after reset (R43, R260), and
the reasons a step can stop. Everything the spec gives the machine is a field; the last three fields are the model's
own. -/

namespace Sys2Proof.Machine

open Sys2Proof

/-- The trigger modes of R22, codes 0 to 4; codes 5 to 7 never occur and have no constructor (log 9). -/
inductive TrigMode where
  /-- code 0: the trigger never fires (R142) -/
  | live
  /-- code 1: EXTTRIG fires (R140) -/
  | external
  /-- code 2: a rising crossing fires (R135) -/
  | rising
  /-- code 3: a falling crossing fires (R135) -/
  | falling
  /-- code 4: a crossing in either direction fires (R135) -/
  | either
deriving DecidableEq, Repr

/-- The trigger states of R31, codes 0 to 4; codes 5 to 7 are never taken and have no constructor (log 9). -/
inductive TState where
  /-- code 0: settling suppression in progress, no trigger can fire -/
  | idle
  /-- code 1: eligible to fire -/
  | armed
  /-- code 2: passed through inside `Fire()`, never seen between operations -/
  | fired
  /-- code 3: waiting out the acquisition delay -/
  | delay
  /-- code 4: collecting samples until the window closes, and while it is held -/
  | capturing
deriving DecidableEq, Repr

/-- The Acquisition Controller's state, one bit (R36). -/
inductive AState where
  /-- 0: sampling is enabled, subject to `susp` -/
  | run
  /-- 1: a capture window is complete and held -/
  | ready
deriving DecidableEq, Repr

/-- The staged configuration: ten registers of 24 bits, in the numbering of R22 (R21). -/
structure Staged where
  nCh : Imm24
  period : Imm24
  mode : Imm24
  tch : Imm24
  thr : Imm24
  pre : Imm24
  dly : Imm24
  nS : Imm24
  res : Imm24
  skip : Imm24
deriving DecidableEq, Repr

/-- The active configuration (R22). -/
structure Active where
  nCh : BitVec 4
  period : BitVec 20
  mode : TrigMode
  tch : BitVec 3
  thr : BitVec 10
  pre : BitVec 11
  dly : BitVec 11
  nS : BitVec 11
  res : BitVec 1
  skip : BitVec 16
deriving DecidableEq, Repr

/-- The Live Sample Set: MAXCH = 6 registers of SW bits (R29). -/
structure LiveSet where
  ch0 : Sample
  ch1 : Sample
  ch2 : Sample
  ch3 : Sample
  ch4 : Sample
  ch5 : Sample
deriving DecidableEq, Repr

/-- The circular buffer as (slot, value) pairs in one canonical form (log 7): slots strictly rising, each below CAP,
and no pair with the value an unlisted slot reads as, which is 0 (R25, R43). -/
abbrev Memory := List (Nat × Sample)

/-- What the three input ports present at one instant (R3, R5): at most one strobe each. -/
structure Instant where
  /-- the sample port's strobe with its 10-bit value -/
  sample : Option Sample
  /-- the trigger port's strobe -/
  trig : Bool
  /-- the host port's operation word -/
  host : Option Word
deriving DecidableEq, Repr

/-- The complete state (R20), and the three fields of the model's own. -/
structure State where
  /-- the staged configuration `S[0..9]` (R21) -/
  staged : Staged
  /-- the active configuration (R22) -/
  cfg : Active
  /-- the circular buffer `Buf[0..CAP-1]` (R25) -/
  buf : Memory
  /-- the number of slots in use (R24) -/
  bufSize : BitVec 11
  /-- the slot the next accepted sample goes to (R26) -/
  pivot : BitVec 11
  /-- the channel the next accepted sample belongs to (R27) -/
  curChan : BitVec 3
  /-- the Live Sample Set `Live[0..5]` (R29) -/
  live : LiveSet
  /-- the state of the Trigger Engine (R31) -/
  tstate : TState
  /-- periods counted since the fire (R32) -/
  dlyCnt : BitVec 11
  /-- the first slot of the window, `captureStartIndex` (R33) -/
  start : BitVec 11
  /-- completed channel-cycles counted by settling suppression (R34) -/
  supCnt : BitVec 11
  /-- conversions the throttle still discards (R35) -/
  skipCnt : BitVec 16
  /-- the state of the Acquisition Controller (R36) -/
  astate : AState
  /-- the host has suspended the sampling context (R37) -/
  susp : Bool
  /-- a live sample group is available, `sampAvail` (R38) -/
  liveAvail : Bool
  /-- an ILLEGAL word was presented since the last RESET (R39) -/
  ill : Bool
  /-- the MODEL'S OWN: the result of the last operation performed (R4, R88; log 4) -/
  rdata : Word
  /-- the MODEL'S OWN: what the input ports will present, instant by instant (R3, R5; log 1) -/
  inputs : List Instant
  /-- the MODEL'S OWN: selects the free arbitration order used next (R69; log 2) -/
  arbSeq : Nat
deriving DecidableEq, Repr

/-- Reasons to stop with a fault: there are none. The engine raises no exception of any kind and `Step` is total
(R230, R4), and an ILLEGAL word is an ordinary step (R232); so no constructor stands here (log 10). -/
inductive Fault where
deriving DecidableEq, Repr

/-- Reasons to refuse an instruction. -/
inductive Refusal where
  /-- Raised by an arm of `exec` for an instruction that has no meaning yet; no arm raises it now. Safe: the model
  stops where the hardware goes on. -/
  | notModelled (mnemonic : String)
deriving DecidableEq, Repr

/-- Write `staged` and nothing else. -/
def State.setStaged (s : State) (x : Staged) : State := { s with staged := x }

/-- Write `cfg` and nothing else. -/
def State.setCfg (s : State) (x : Active) : State := { s with cfg := x }

/-- Write `buf` and nothing else. -/
def State.setBuf (s : State) (x : Memory) : State := { s with buf := x }

/-- Write `bufSize` and nothing else. -/
def State.setBufSize (s : State) (x : BitVec 11) : State := { s with bufSize := x }

/-- Write `pivot` and nothing else. -/
def State.setPivot (s : State) (x : BitVec 11) : State := { s with pivot := x }

/-- Write `curChan` and nothing else. -/
def State.setCurChan (s : State) (x : BitVec 3) : State := { s with curChan := x }

/-- Write `live` and nothing else. -/
def State.setLive (s : State) (x : LiveSet) : State := { s with live := x }

/-- Write `tstate` and nothing else. -/
def State.setTstate (s : State) (x : TState) : State := { s with tstate := x }

/-- Write `dlyCnt` and nothing else. -/
def State.setDlyCnt (s : State) (x : BitVec 11) : State := { s with dlyCnt := x }

/-- Write `start` and nothing else. -/
def State.setStart (s : State) (x : BitVec 11) : State := { s with start := x }

/-- Write `supCnt` and nothing else. -/
def State.setSupCnt (s : State) (x : BitVec 11) : State := { s with supCnt := x }

/-- Write `skipCnt` and nothing else. -/
def State.setSkipCnt (s : State) (x : BitVec 16) : State := { s with skipCnt := x }

/-- Write `astate` and nothing else. -/
def State.setAstate (s : State) (x : AState) : State := { s with astate := x }

/-- Write `susp` and nothing else. -/
def State.setSusp (s : State) (x : Bool) : State := { s with susp := x }

/-- Write `liveAvail` and nothing else. -/
def State.setLiveAvail (s : State) (x : Bool) : State := { s with liveAvail := x }

/-- Write `ill` and nothing else. -/
def State.setIll (s : State) (x : Bool) : State := { s with ill := x }

/-- Write `rdata` and nothing else. -/
def State.setRdata (s : State) (x : Word) : State := { s with rdata := x }

/-- Write `inputs` and nothing else. -/
def State.setInputs (s : State) (x : List Instant) : State := { s with inputs := x }

/-- Write `arbSeq` and nothing else. -/
def State.setArbSeq (s : State) (x : Nat) : State := { s with arbSeq := x }

/-- The staged configuration after reset (R43). -/
def Staged.reset : Staged where
  nCh := 1
  period := 1
  mode := 0
  tch := 0
  thr := 0
  pre := 0
  dly := 0
  nS := 2
  res := 0
  skip := 0

/-- The active configuration after reset, the reference DEFAULTS (R43, R262; log 5). -/
def Active.reset : Active where
  nCh := 1
  period := 1
  mode := .live
  tch := 0
  thr := 0
  pre := 0
  dly := 0
  nS := 2
  res := 0
  skip := 0

/-- The Live Sample Set with every register 0 (R43, R116). -/
def LiveSet.zero : LiveSet where
  ch0 := 0
  ch1 := 0
  ch2 := 0
  ch3 := 0
  ch4 := 0
  ch5 := 0

/-- The state after reset and at power-on, the table of R43 (R260). The model's own fields: nothing presented yet
(log 1), result word 0 (log 4), arbitration counter 0 (log 2). -/
def State.reset : State where
  staged := Staged.reset
  cfg := Active.reset
  buf := []
  bufSize := 2
  pivot := 0
  curChan := 0
  live := LiveSet.zero
  tstate := .idle
  dlyCnt := 0
  start := 0
  supCnt := 0
  skipCnt := 0
  astate := .run
  susp := true
  liveAvail := false
  ill := false
  rdata := 0
  inputs := []
  arbSeq := 0

end Sys2Proof.Machine
end

