-- ==== Sys2Proof/Machine/Ops.lean ====
section
/-! DEFINITION. The named operations over the slot space, the register sets and the result word, and the index
arithmetic every other file uses (R11, R12, R13, R60 to R66). -/

namespace Sys2Proof.Machine

open Sys2Proof

/-- `norm(x, B)`: the representative of `x` in `[0, B)`, the floor modulus for every integer `x` (R11, D30). -/
def norm (x : Int) (B : Nat) : Nat := (x % (B : Int)).toNat

/-- `clamp(v, lo, hi)`: the nearest valid bound (R12). -/
def clamp (v lo hi : Nat) : Nat := if v < lo then lo else if hi < v then hi else v

/-- What a slot that is not listed reads as: the reset contents (R25, R43; log 7). -/
def unlistedSlot : Sample := 0

/-- `Buf[a]` (R13, R114): one whole slot, without side effect (R66). -/
def Memory.read : Memory → Nat → Sample
  | [], _ => unlistedSlot
  | (b, w) :: m, a => if a = b then w else Memory.read m a

/-- Put a value into the list of listed slots, keeping the canonical form (log 7). -/
def Memory.put : Memory → Nat → Sample → Memory
  | [], a, v => if v = unlistedSlot then [] else [(a, v)]
  | (b, w) :: m, a, v =>
    if a < b then (if v = unlistedSlot then (b, w) :: m else (a, v) :: (b, w) :: m)
    else if a = b then (if v = unlistedSlot then m else (a, v) :: m)
    else (b, w) :: Memory.put m a v

/-- `Buf[a] <- v` (R13, R112). There are CAP physical slots (R25); no operation of a reachable state names another
(R61), and outside them nothing is written (log 8). -/
def Memory.write (m : Memory) (a : Nat) (v : Sample) : Memory :=
  if a < Config.CAP then Memory.put m a v else m

/-- `for j in 0 .. CAP-1: Buf[j] <- 0` (R116). -/
def Memory.zero : Memory := []

/-- The listed slots rise strictly from `lo`, lie below CAP and hold no value an unlisted slot reads as. -/
def Memory.wfFrom : Nat → Memory → Bool
  | _, [] => true
  | lo, (a, v) :: m =>
    decide (lo ≤ a) && decide (a < Config.CAP) && !(v == unlistedSlot) && Memory.wfFrom (a + 1) m

/-- The canonical form of the circular buffer (log 7). -/
def Memory.wf (m : Memory) : Bool := Memory.wfFrom 0 m

/-- `Live[c]` for a channel number `c` below MAXCH (R29); no other register exists (log 8). -/
def LiveSet.get (l : LiveSet) (c : Nat) : Sample :=
  match c with
  | 0 => l.ch0
  | 1 => l.ch1
  | 2 => l.ch2
  | 3 => l.ch3
  | 4 => l.ch4
  | 5 => l.ch5
  | _ => 0

/-- `Live[c] <- v` (R165); a number of no register writes nothing (log 8). -/
def LiveSet.set (l : LiveSet) (c : Nat) (v : Sample) : LiveSet :=
  match c with
  | 0 => { l with ch0 := v }
  | 1 => { l with ch1 := v }
  | 2 => { l with ch2 := v }
  | 3 => { l with ch3 := v }
  | 4 => { l with ch4 := v }
  | 5 => { l with ch5 := v }
  | _ => l

/-- `S[idx]` (R21). -/
def Staged.get (c : Staged) : CfgField → Imm24
  | .nCh => c.nCh
  | .period => c.period
  | .mode => c.mode
  | .tch => c.tch
  | .thr => c.thr
  | .pre => c.pre
  | .dly => c.dly
  | .nS => c.nS
  | .res => c.res
  | .skip => c.skip

/-- `S[idx] <- v` (R21, R181). -/
def Staged.set (c : Staged) (f : CfgField) (v : Imm24) : Staged :=
  match f with
  | .nCh => { c with nCh := v }
  | .period => { c with period := v }
  | .mode => { c with mode := v }
  | .tch => { c with tch := v }
  | .thr => { c with thr := v }
  | .pre => { c with pre := v }
  | .dly => { c with dly := v }
  | .nS => { c with nS := v }
  | .res => { c with res := v }
  | .skip => { c with skip := v }

/-- Every operation ends by setting its 32-bit result; one that returns nothing returns 0 (R13, R88). -/
def done (s : State) (r : Word) : Host.Outcome State Fault Refusal := .next (s.setRdata r)

/-- What stands in place of taking an exception (R230, R232): the sticky flag `ill` is set, and nothing else changes
(R223). The engine has no saved registers, no handler and no return (R238, R239). -/
def State.recordIllegal (s : State) : State := s.setIll true

end Sys2Proof.Machine
end

