-- ==== Sys2Proof/Machine/Operands.lean ====
section
/-! DEFINITION. The operand forms (R84) and the views through which a read operation sees the state: an index operand
reduced modulo `bufSize` (R63), a configuration field as a word (R188), the numeric codes of modes and states (R22,
R31, R85). -/

namespace Sys2Proof.Machine

open Sys2Proof

/-- The numeric code of a trigger mode (R22, R85). -/
def TrigMode.code : TrigMode → BitVec 3
  | .live => 0
  | .external => 1
  | .rising => 2
  | .falling => 3
  | .either => 4

/-- The trigger mode of a code from 0 to 4; a greater number is clamped to 4 (R183, D7). -/
def TrigMode.ofCode : Nat → TrigMode
  | 0 => .live
  | 1 => .external
  | 2 => .rising
  | 3 => .falling
  | _ => .either

/-- The numeric code of a trigger state (R31). -/
def TState.code : TState → BitVec 3
  | .idle => 0
  | .armed => 1
  | .fired => 2
  | .delay => 3
  | .capturing => 4

/-- The numeric code of the controller's state (R36). -/
def AState.code : AState → BitVec 1
  | .run => 0
  | .ready => 1

/-- An index operand reduced at execution: `norm(i, bufSize)` (R63, R84). -/
def State.index (s : State) (i : Imm24) : Nat := norm i.toNat s.bufSize.toNat

/-- An active configuration field, zero-extended to 32 bits (R188). -/
def Active.word (c : Active) : CfgField → Word
  | .nCh => c.nCh.setWidth 32
  | .period => c.period.setWidth 32
  | .mode => c.mode.code.setWidth 32
  | .tch => c.tch.setWidth 32
  | .thr => c.thr.setWidth 32
  | .pre => c.pre.setWidth 32
  | .dly => c.dly.setWidth 32
  | .nS => c.nS.setWidth 32
  | .res => c.res.setWidth 32
  | .skip => c.skip.setWidth 32

/-- The active configuration as staged registers: `zext_24` of every field (R184, R221). -/
def Active.toStaged (c : Active) : Staged where
  nCh := c.nCh.setWidth 24
  period := c.period.setWidth 24
  mode := c.mode.code.setWidth 24
  tch := c.tch.setWidth 24
  thr := c.thr.setWidth 24
  pre := c.pre.setWidth 24
  dly := c.dly.setWidth 24
  nS := c.nS.setWidth 24
  res := c.res.setWidth 24
  skip := c.skip.setWidth 24

end Sys2Proof.Machine
end

