-- ==== Sys2Proof/Machine/Flags.lean ====
section
/-! DEFINITION. The flags and level outputs (R5, R36 to R40), each a pure function of the state. -/

namespace Sys2Proof.Machine

open Sys2Proof

/-- `capRdy`, the source's `acqComplete` (R36), and the level output `cap_rdy` (R5). -/
def State.capRdy (s : State) : Bool := decide (s.astate = .ready)

/-- The sampling context is enabled, and the level output `sampling_en` (R5, R160). -/
def State.samplingEn (s : State) : Bool := !s.susp && decide (s.astate = .run)

/-- The level output `live_avail` (R5). -/
def State.outLiveAvail (s : State) : Bool := s.liveAvail

/-- The level output `chan_sel`: the channel the next conversion must be taken from (R5, R103). -/
def State.chanSel (s : State) : BitVec 3 := s.curChan

/-- The level output `cfg_period` (R5). -/
def State.cfgPeriod (s : State) : BitVec 20 := s.cfg.period

/-- The STATUS word (R40), from bit 31 down to bit 0. -/
def State.status (s : State) : Word :=
  (0 : BitVec 19) ++ BitVec.ofBool s.samplingEn ++ (0 : BitVec 1) ++ s.curChan ++ (0 : BitVec 1)
    ++ s.tstate.code ++ BitVec.ofBool s.ill ++ BitVec.ofBool s.susp ++ BitVec.ofBool s.liveAvail
    ++ BitVec.ofBool s.capRdy

/-- The engine registers as RDREG reads them, zero-extended to 32 bits (R41, R189). -/
def State.engReg (s : State) : EngReg → Word
  | .status => s.status
  | .pivot => s.pivot.setWidth 32
  | .start => s.start.setWidth 32
  | .dlyCnt => s.dlyCnt.setWidth 32
  | .supCnt => s.supCnt.setWidth 32
  | .bufSize => s.bufSize.setWidth 32
  | .curChan => s.curChan.setWidth 32
  | .skipCnt => s.skipCnt.setWidth 32
  | .cap => BitVec.ofNat 32 Config.CAP
  | .maxch => BitVec.ofNat 32 Config.MAXCH

end Sys2Proof.Machine
end

