-- ==== Sys2Proof/Machine/Scheduler.lean ====
section
/-! DEFINITION. The Channel Scheduler (R100 to R104). It has no operation of its own. -/

namespace Sys2Proof.Machine

open Sys2Proof

/-- `NextChan`: `curChan <- (curChan + 1) mod nCh` (R101). -/
def State.nextChan (s : State) : State :=
  s.setCurChan (BitVec.ofNat 3 ((s.curChan.toNat + 1) % s.cfg.nCh.toNat))

/-- `CycleComplete`, evaluated before `NextChan` of the same sample: `curChan = nCh - 1` (R102, C8). -/
def State.cycleComplete (s : State) : Bool := decide (s.curChan.toNat + 1 = s.cfg.nCh.toNat)

end Sys2Proof.Machine
end

