-- ==== Sys2Proof/Machine/Buffer.lean ====
section
/-! DEFINITION. The Circular Buffer (R110 to R119) and its operation RDBUF. -/

namespace Sys2Proof.Machine

open Sys2Proof

/-- `write(value, pivot)`: `Buf[pivot] <- v` (R112). -/
def State.writeSlot (s : State) (v : Sample) : State := s.setBuf (s.buf.write s.pivot.toNat v)

/-- The pivot advance: `pivot <- (pivot + 1) mod bufSize` (R113). -/
def State.advancePivot (s : State) : State :=
  s.setPivot (BitVec.ofNat 11 ((s.pivot.toNat + 1) % s.bufSize.toNat))

/-- The channel of a slot: `chanOf(j) = j mod nCh` (R118). -/
def State.chanOf (s : State) (j : Nat) : Nat := j % s.cfg.nCh.toNat

/-- The slot of the previous sample of the current channel: `norm(pivot - nCh, bufSize)` (R119). -/
def State.prevSlot (s : State) : Nat :=
  norm ((s.pivot.toNat : Int) - (s.cfg.nCh.toNat : Int)) s.bufSize.toNat

/-- `BufReset()` (R116): every slot and live register zero, pivot and channel 0, `bufSize` derived anew from the
active configuration as it stands, `liveAvail` cleared. -/
def State.bufReset (s : State) : State :=
  (((((s.setBuf Memory.zero).setPivot 0).setBufSize
    (BitVec.ofNat 11 (s.cfg.nCh.toNat * s.cfg.nS.toNat))).setCurChan 0).setLive LiveSet.zero).setLiveAvail false

/-- RDBUF `i` (R115). -/
def execRdbuf (i : Imm24) (s : State) : Host.Outcome State Fault Refusal :=
  done s ((s.buf.read (s.index i)).setWidth 32)

end Sys2Proof.Machine
end

