-- ==== Sys2Proof/Machine/Trigger.lean ====
section
/-! DEFINITION. The Trigger Engine (R130 to R144) and its operation EXTTRIG. -/

namespace Sys2Proof.Machine

open Sys2Proof

/-- `TrigReset()` (R131). -/
def State.trigReset (s : State) : State :=
  (((s.setTstate .idle).setDlyCnt 0).setStart 0).setSupCnt 0

/-- `SupStep(cyc)`, the settling count, taken after the trigger evaluation of the same sample (R132). -/
def State.supStep (s : State) (cyc : Bool) : State :=
  if cyc = true ∧ s.tstate = .idle then
    let s1 := s.setSupCnt (s.supCnt + 1)
    if s1.supCnt.toNat = s1.cfg.pre.toNat + 1 then s1.setTstate .armed else s1
  else s

/-- `rise := (prev < thr) and (thr <= cur)` (R135). -/
def riseCond (prev thr cur : Sample) : Bool :=
  decide (prev.toNat < thr.toNat) && decide (thr.toNat ≤ cur.toNat)

/-- `fall := (prev > thr) and (thr >= cur)` (R135). -/
def fallCond (prev thr cur : Sample) : Bool :=
  decide (thr.toNat < prev.toNat) && decide (cur.toNat ≤ thr.toNat)

/-- Which crossing fires in which mode (R130, R135). -/
def edgeFires (mode : TrigMode) (prev thr cur : Sample) : Bool :=
  match mode with
  | .live => false
  | .external => false
  | .rising => riseCond prev thr cur
  | .falling => fallCond prev thr cur
  | .either => riseCond prev thr cur || fallCond prev thr cur

/-- `EdgeFire(v)`: the sample `v` against the previous sample of the same channel, read from the buffer
(R134, R135). -/
def State.edgeFire (s : State) (v : Sample) : Bool :=
  edgeFires s.cfg.mode (s.buf.read s.prevSlot) s.cfg.thr v

/-- The start formula as a function of numbers: `norm(norm(pivot + dly, B) - tch - pre * nCh, B)` (R137). -/
def startOf (pivot dly B tch pre nCh : Nat) : Nat :=
  norm ((norm ((pivot : Int) + (dly : Int)) B : Int) - (tch : Int) - (pre : Int) * (nCh : Int)) B

/-- `Fire()` (R136): the window's start from the pivot at the instant of firing, the delay count 0, and the transient
state FIRED, left at once for CAPTURING or DELAY. -/
def State.fire (s : State) : State :=
  let s1 := s.setStart (BitVec.ofNat 11 (startOf s.pivot.toNat s.cfg.dly.toNat s.bufSize.toNat s.cfg.tch.toNat
    s.cfg.pre.toNat s.cfg.nCh.toNat))
  let s2 := (s1.setDlyCnt 0).setTstate .fired
  if s2.cfg.dly = 0 then s2.setTstate .capturing else s2.setTstate .delay

/-- `DelayStep()` (R138). -/
def State.delayStep (s : State) : State :=
  let s1 := s.setDlyCnt (s.dlyCnt + 1)
  if s1.dlyCnt = s1.cfg.dly then s1.setTstate .capturing else s1

/-- `TrigStep(v)` (R133): only samples of channel `tch` matter; an edge mode fires in ARMED (`edgeFires` is false in
the modes Live and External), the delay counts in DELAY. -/
def State.trigStep (s : State) (v : Sample) : State :=
  if s.curChan = s.cfg.tch then
    match s.tstate with
    | .armed => if s.edgeFire v = true then s.fire else s
    | .delay => s.delayStep
    | .idle => s
    | .fired => s
    | .capturing => s
  else s

/-- `WindowComplete := (tstate = CAPTURING) and (pivot = start)` (R139). -/
def State.windowComplete (s : State) : Bool := decide (s.tstate = .capturing) && decide (s.pivot = s.start)

/-- EXTTRIG is consumed as a fire signal: sampling enabled, External mode, ARMED (R140). -/
def State.extTrigAccepted (s : State) : Bool :=
  s.samplingEn && decide (s.cfg.mode = .external) && decide (s.tstate = .armed)

/-- EXTTRIG (R140): fires, or is dropped without trace. No completion check is made. -/
def execExttrig (s : State) : Host.Outcome State Fault Refusal :=
  done (if s.extTrigAccepted = true then s.fire else s) 0

end Sys2Proof.Machine
end

