-- ==== Sys2Proof/Machine/Acquisition.lean ====
section
/-! DEFINITION. The Acquisition Controller (R160 to R172): SAMPLE, SUSPEND, RESUME, ACKCAP. -/

namespace Sys2Proof.Machine

open Sys2Proof

/-- `AcqReset()` (R161). It touches neither `susp` nor `liveAvail`. -/
def State.acqReset (s : State) : State := (s.setAstate .run).setSkipCnt 0

/-- Step 2 of the SAMPLE sequence: `Buf[pivot] <- v`, `Live[curChan] <- v` (R165). -/
def State.store (s : State) (v : Sample) : State :=
  (s.writeSlot v).setLive (s.live.set s.curChan.toNat v)

/-- Step 3: `if cyc: liveAvail <- 1` (R166). -/
def State.markLive (s : State) (cyc : Bool) : State := if cyc = true then s.setLiveAvail true else s

/-- Step 6: `if tstate = CAPTURING and pivot = start: astate <- READY` (R168). -/
def State.complete (s : State) : State := if s.windowComplete = true then s.setAstate .ready else s

/-- Steps 2 to 6 of the SAMPLE sequence for an accepted sample, after the throttle is loaded, in the order of R162 and
R167. -/
def State.accept (s : State) (v : Sample) : State :=
  let s1 := (s.setSkipCnt s.cfg.skip).store v
  let cyc := s1.cycleComplete
  let s2 := (s1.markLive cyc).trigStep v
  let s3 := s2.advancePivot.nextChan
  (s3.supStep cyc).complete

/-- The whole SAMPLE sequence (R162): the gate (R163), the throttle (R164), the accepted sample. -/
def State.sample (s : State) (v : Sample) : State :=
  if s.susp = true ∨ s.astate = .ready then s
  else if s.skipCnt ≠ 0 then s.setSkipCnt (s.skipCnt - 1)
  else s.accept v

/-- SAMPLE `v` (R162). -/
def execSample (v : Sample) (s : State) : Host.Outcome State Fault Refusal := done (s.sample v) 0

/-- SUSPEND (R170). -/
def execSuspend (s : State) : Host.Outcome State Fault Refusal := done (s.setSusp true) 0

/-- RESUME (R171). -/
def execResume (s : State) : Host.Outcome State Fault Refusal := done (s.setSusp false) 0

/-- `BufReset(); TrigReset(); AcqReset()`, the three procedures in this order (R172, R221). -/
def State.captureReset (s : State) : State := s.bufReset.trigReset.acqReset

/-- ACKCAP (R172): in READY the three resets, otherwise nothing. -/
def execAckcap (s : State) : Host.Outcome State Fault Refusal :=
  done (if s.astate = .ready then s.captureReset else s) 0

end Sys2Proof.Machine
end

