-- ==== Sys2Proof/Machine/Configuration.lean ====
section
/-! DEFINITION. The configuration operations (R180 to R191): WRCFG, APPLY, RDCFG, RDREG. -/

namespace Sys2Proof.Machine

open Sys2Proof

/-- `Clamp(S)` (R183), the fields in its order, each dependent bound from the value already clamped. -/
def clampRequest (r : Staged) : Active :=
  let nCh := clamp r.nCh.toNat 1 Config.MAXCH
  let nS := clamp r.nS.toNat Config.MINNS (Config.CAP / nCh)
  { nCh := BitVec.ofNat 4 nCh
    period := BitVec.ofNat 20 (clamp r.period.toNat 1 Config.MAXPER)
    mode := TrigMode.ofCode (min r.mode.toNat 4)
    tch := BitVec.ofNat 3 (min r.tch.toNat (nCh - 1))
    thr := BitVec.ofNat 10 (min r.thr.toNat Config.MAXTHR)
    pre := BitVec.ofNat 11 (min r.pre.toNat (nS - 1))
    dly := BitVec.ofNat 11 (min r.dly.toNat Config.MAXDLY)
    nS := BitVec.ofNat 11 nS
    res := BitVec.ofNat 1 (min r.res.toNat 1)
    skip := BitVec.ofNat 16 (min r.skip.toNat Config.MAXSKIP) }

/-- The request whose clamp is the parameter DEFAULTS: the all-zero request of the reference value (R221, R262, D10;
DESIGN CHOICE, log 5). -/
def defaultRequest : Staged where
  nCh := 0
  period := 0
  mode := 0
  tch := 0
  thr := 0
  pre := 0
  dly := 0
  nS := 0
  res := 0
  skip := 0

/-- Make a configuration active and write it back to the staged registers (R182, R184). -/
def State.activate (s : State) (new : Active) : State := (s.setCfg new).setStaged new.toStaged

/-- `resChanged := (new.res != res)` (R182). -/
def State.resChanged (s : State) (new : Active) : Bool := new.res != s.cfg.res

/-- `bufReset := (fbr = 1) or (new.nCh != nCh) or (new.nS != nS) or resChanged` (R182, R185). -/
def State.bufResetNeeded (s : State) (fbr : Bool) (new : Active) : Bool :=
  fbr || new.nCh != s.cfg.nCh || new.nS != s.cfg.nS || s.resChanged new

/-- The state after APPLY with the clamped configuration `new` (R182): activation, the buffer reset where it is
needed, then always the trigger and acquisition resets. -/
def State.applyConfig (s : State) (fbr : Bool) (new : Active) : State :=
  let s1 := s.activate new
  let s2 := if s.bufResetNeeded fbr new = true then s1.bufReset else s1
  s2.trigReset.acqReset

/-- APPLY's result, the reset-required flags (R187): bit 2 `resChanged`, bit 1 one, bit 0 `bufReset`. -/
def State.applyResult (s : State) (fbr : Bool) (new : Active) : Word :=
  (0 : BitVec 29) ++ BitVec.ofBool (s.resChanged new) ++ (1 : BitVec 1) ++ BitVec.ofBool (s.bufResetNeeded fbr new)

/-- APPLY `fbr` (R182). -/
def execApply (fbr : Bool) (s : State) : Host.Outcome State Fault Refusal :=
  done (s.applyConfig fbr (clampRequest s.staged)) (s.applyResult fbr (clampRequest s.staged))

/-- `S[idx] <- imm; rdata <- 0`, without any check (R181). -/
def stageField (f : CfgField) (imm : Imm24) (s : State) : Host.Outcome State Fault Refusal :=
  done (s.setStaged (s.staged.set f imm)) 0

/-- The value of RDCFG: the active field, or with `st` the staged register (R188). -/
def readField (f : CfgField) (st : Bool) (s : State) : Host.Outcome State Fault Refusal :=
  done s (if st = true then (s.staged.get f).setWidth 32 else s.cfg.word f)

/-- The value of RDREG (R189). -/
def readReg (r : EngReg) (s : State) : Host.Outcome State Fault Refusal := done s (s.engReg r)

/-- WRCFG `nCh`, `imm` (R181). -/
def execWrcfgNCh (imm : Imm24) (s : State) : Host.Outcome State Fault Refusal := stageField .nCh imm s

/-- WRCFG `period`, `imm` (R181). -/
def execWrcfgPeriod (imm : Imm24) (s : State) : Host.Outcome State Fault Refusal := stageField .period imm s

/-- WRCFG `mode`, `imm` (R181). -/
def execWrcfgMode (imm : Imm24) (s : State) : Host.Outcome State Fault Refusal := stageField .mode imm s

/-- WRCFG `tch`, `imm` (R181). -/
def execWrcfgTch (imm : Imm24) (s : State) : Host.Outcome State Fault Refusal := stageField .tch imm s

/-- WRCFG `thr`, `imm` (R181). -/
def execWrcfgThr (imm : Imm24) (s : State) : Host.Outcome State Fault Refusal := stageField .thr imm s

/-- WRCFG `pre`, `imm` (R181). -/
def execWrcfgPre (imm : Imm24) (s : State) : Host.Outcome State Fault Refusal := stageField .pre imm s

/-- WRCFG `dly`, `imm` (R181). -/
def execWrcfgDly (imm : Imm24) (s : State) : Host.Outcome State Fault Refusal := stageField .dly imm s

/-- WRCFG `nS`, `imm` (R181). -/
def execWrcfgNS (imm : Imm24) (s : State) : Host.Outcome State Fault Refusal := stageField .nS imm s

/-- WRCFG `res`, `imm` (R181). -/
def execWrcfgRes (imm : Imm24) (s : State) : Host.Outcome State Fault Refusal := stageField .res imm s

/-- WRCFG `skip`, `imm` (R181). -/
def execWrcfgSkip (imm : Imm24) (s : State) : Host.Outcome State Fault Refusal := stageField .skip imm s

/-- RDCFG `nCh` (R188). -/
def execRdcfgNCh (st : Bool) (s : State) : Host.Outcome State Fault Refusal := readField .nCh st s

/-- RDCFG `period` (R188). -/
def execRdcfgPeriod (st : Bool) (s : State) : Host.Outcome State Fault Refusal := readField .period st s

/-- RDCFG `mode` (R188). -/
def execRdcfgMode (st : Bool) (s : State) : Host.Outcome State Fault Refusal := readField .mode st s

/-- RDCFG `tch` (R188). -/
def execRdcfgTch (st : Bool) (s : State) : Host.Outcome State Fault Refusal := readField .tch st s

/-- RDCFG `thr` (R188). -/
def execRdcfgThr (st : Bool) (s : State) : Host.Outcome State Fault Refusal := readField .thr st s

/-- RDCFG `pre` (R188). -/
def execRdcfgPre (st : Bool) (s : State) : Host.Outcome State Fault Refusal := readField .pre st s

/-- RDCFG `dly` (R188). -/
def execRdcfgDly (st : Bool) (s : State) : Host.Outcome State Fault Refusal := readField .dly st s

/-- RDCFG `nS` (R188). -/
def execRdcfgNS (st : Bool) (s : State) : Host.Outcome State Fault Refusal := readField .nS st s

/-- RDCFG `res` (R188). -/
def execRdcfgRes (st : Bool) (s : State) : Host.Outcome State Fault Refusal := readField .res st s

/-- RDCFG `skip` (R188). -/
def execRdcfgSkip (st : Bool) (s : State) : Host.Outcome State Fault Refusal := readField .skip st s

/-- RDREG STATUS (R189, R41). -/
def execRdregStatus (s : State) : Host.Outcome State Fault Refusal := readReg .status s

/-- RDREG pivot (R189, R41). -/
def execRdregPivot (s : State) : Host.Outcome State Fault Refusal := readReg .pivot s

/-- RDREG start (R189, R41). -/
def execRdregStart (s : State) : Host.Outcome State Fault Refusal := readReg .start s

/-- RDREG dlyCnt (R189, R41). -/
def execRdregDlyCnt (s : State) : Host.Outcome State Fault Refusal := readReg .dlyCnt s

/-- RDREG supCnt (R189, R41). -/
def execRdregSupCnt (s : State) : Host.Outcome State Fault Refusal := readReg .supCnt s

/-- RDREG bufSize (R189, R41). -/
def execRdregBufSize (s : State) : Host.Outcome State Fault Refusal := readReg .bufSize s

/-- RDREG curChan (R189, R41). -/
def execRdregCurChan (s : State) : Host.Outcome State Fault Refusal := readReg .curChan s

/-- RDREG skipCnt (R189, R41). -/
def execRdregSkipCnt (s : State) : Host.Outcome State Fault Refusal := readReg .skipCnt s

/-- RDREG CAP (R189, R41). -/
def execRdregCap (s : State) : Host.Outcome State Fault Refusal := readReg .cap s

/-- RDREG MAXCH (R189, R41). -/
def execRdregMaxCh (s : State) : Host.Outcome State Fault Refusal := readReg .maxch s

end Sys2Proof.Machine
end

