-- ==== Sys2Proof/Machine/Readout.lean ====
section
/-! DEFINITION. The Readout/Drain boundary (R200 to R208): RDWIN, RDTS, RDLIVE, ACKLIVE. -/

namespace Sys2Proof.Machine

open Sys2Proof

/-- The group index of a window offset: `norm(i, bufSize) div nCh` (R201, R202, R204). -/
def State.groupOf (s : State) (i : Imm24) : Nat := s.index i / s.cfg.nCh.toNat

/-- The slot of a window offset: `norm(start + norm(i, bufSize), bufSize)` (R201). -/
def State.windowSlot (s : State) (i : Imm24) : Nat :=
  norm ((s.start.toNat : Int) + (s.index i : Int)) s.bufSize.toNat

/-- The result of RDWIN, from bit 31 down to bit 0 (R201): valid, seven zeros, group, channel, value. -/
def State.windowWord (s : State) (i : Imm24) : Word :=
  BitVec.ofBool s.capRdy ++ (0 : BitVec 7) ++ BitVec.ofNat 11 (s.groupOf i)
    ++ BitVec.ofNat 3 (s.chanOf (s.windowSlot i)) ++ s.buf.read (s.windowSlot i)

/-- RDWIN `i` (R201). -/
def execRdwin (i : Imm24) (s : State) : Host.Outcome State Fault Refusal := done s (s.windowWord i)

/-- The relative timestamp as an integer: `(g - pre + dly) * period` (R204). -/
def State.timestamp (s : State) (i : Imm24) : Int :=
  ((s.groupOf i : Int) - (s.cfg.pre.toNat : Int) + (s.cfg.dly.toNat : Int)) * (s.cfg.period.toNat : Int)

/-- The timestamp as a 64-bit two's-complement value (R204, R205). -/
def State.timestamp64 (s : State) (i : Imm24) : BitVec 64 := BitVec.ofInt 64 (s.timestamp i)

/-- RDTS `h`, `i`: the low or the high half of the timestamp (R205). -/
def execRdts (h : Bool) (i : Imm24) (s : State) : Host.Outcome State Fault Refusal :=
  done s (if h = true then (s.timestamp64 i).extractLsb' 32 32 else (s.timestamp64 i).extractLsb' 0 32)

/-- `rdata <- zext_32(Live[ch])` (R207). -/
def readLive (ch : Nat) (s : State) : Host.Outcome State Fault Refusal := done s ((s.live.get ch).setWidth 32)

/-- RDLIVE 0 (R207). -/
def execRdlive0 (s : State) : Host.Outcome State Fault Refusal := readLive 0 s

/-- RDLIVE 1 (R207). -/
def execRdlive1 (s : State) : Host.Outcome State Fault Refusal := readLive 1 s

/-- RDLIVE 2 (R207). -/
def execRdlive2 (s : State) : Host.Outcome State Fault Refusal := readLive 2 s

/-- RDLIVE 3 (R207). -/
def execRdlive3 (s : State) : Host.Outcome State Fault Refusal := readLive 3 s

/-- RDLIVE 4 (R207). -/
def execRdlive4 (s : State) : Host.Outcome State Fault Refusal := readLive 4 s

/-- RDLIVE 5 (R207). -/
def execRdlive5 (s : State) : Host.Outcome State Fault Refusal := readLive 5 s

/-- ACKLIVE (R208). -/
def execAcklive (s : State) : Host.Outcome State Fault Refusal := done (s.setLiveAvail false) 0

end Sys2Proof.Machine
end

