-- ==== Sys2Proof/Machine/System.lean ====
section
/-! DEFINITION. The system operations (R220 to R223): NOP, RESET, and what an ILLEGAL word does. -/

namespace Sys2Proof.Machine

open Sys2Proof

/-- NOP (R220). -/
def execNop (s : State) : Host.Outcome State Fault Refusal := done s 0

/-- The state after RESET (R221), its assignments in order. The model's own fields `inputs` and `arbSeq` stay: they
are the outside world's, not the engine's (log 11). -/
def State.resetEngine (s : State) : State :=
  let s1 := s.setStaged defaultRequest
  let s2 := (s1.activate (clampRequest s1.staged)).captureReset
  (s2.setSusp true).setIll false

/-- RESET (R221, R222). -/
def execReset (s : State) : Host.Outcome State Fault Refusal := done s.resetEngine 0

/-- ILLEGAL, every word that is none of the sixteen operations: `ill <- 1; rdata <- 0`, an ordinary step (R223,
R232). -/
def execIllegal (s : State) : Host.Outcome State Fault Refusal := done s.recordIllegal 0

end Sys2Proof.Machine
end

