-- ==== Sys2Proof/Machine/Ports.lean ====
section
/-! DEFINITION. The input ports and the arbiter (R3, R5, R69, R236): how the next operation word is taken from what
the ports present. -/

namespace Sys2Proof.Machine

open Sys2Proof

/-- The ports in the order an arbitration order serves them (R69). -/
def portsInOrder : ArbOrder → List Port
  | .TSH => [.trig, .sample, .host]
  | .THS => [.trig, .host, .sample]
  | .STH => [.sample, .trig, .host]
  | .SHT => [.sample, .host, .trig]
  | .HTS => [.host, .trig, .sample]
  | .HST => [.host, .sample, .trig]

/-- The operation word a port presents, in the serialised form of R5; `none` without a strobe. -/
def Instant.word (t : Instant) : Port → Option Word
  | .sample => t.sample.map (fun v => encode (.sample v))
  | .trig => if t.trig = true then some (encode .exttrig) else none
  | .host => t.host

/-- The instant after the event of one port has been served. -/
def Instant.serve (t : Instant) : Port → Instant
  | .sample => { t with sample := none }
  | .trig => { t with trig := false }
  | .host => { t with host := none }

/-- Nothing is presented. -/
def Instant.quiet (t : Instant) : Bool := t.sample.isNone && !t.trig && t.host.isNone

/-- Two or three ports present an event, so that the order matters (R69). -/
def Instant.contended (t : Instant) : Bool :=
  (t.sample.isSome && t.trig) || (t.sample.isSome && t.host.isSome) || (t.trig && t.host.isSome)

/-- The port served next. Where one port presents an event it is that one; where several do, the first in the free
order `Config.arbOrder seq` (R69, R236; log 2). -/
def Instant.choose (t : Instant) (seq : Nat) : Option Port :=
  match t.sample.isSome, t.trig, t.host.isSome with
  | false, false, false => none
  | true, false, false => some .sample
  | false, true, false => some .trig
  | false, false, true => some .host
  | true, true, false => (portsInOrder (Config.arbOrder seq)).find? (fun p => (t.word p).isSome)
  | true, false, true => (portsInOrder (Config.arbOrder seq)).find? (fun p => (t.word p).isSome)
  | false, true, true => (portsInOrder (Config.arbOrder seq)).find? (fun p => (t.word p).isSome)
  | true, true, true => (portsInOrder (Config.arbOrder seq)).find? (fun p => (t.word p).isSome)

/-- The word of a cycle in which nothing is presented: NOP, the all-zero word (R220, R250; log 3). -/
def idleWord : Word := 0

/-- The next operation word (R68, R69): from the first instant, which is dropped once all its events are served. -/
def State.fetchWord (s : State) : Word :=
  match s.inputs with
  | [] => idleWord
  | t :: _ =>
    match t.choose s.arbSeq with
    | none => idleWord
    | some p => (t.word p).getD idleWord

/-- The state in which that word is performed: its event no longer presented, and the counter of arbitrations one
higher where the order mattered (log 2). -/
def State.afterFetch (s : State) : State :=
  match s.inputs with
  | [] => s
  | t :: ts =>
    match t.choose s.arbSeq with
    | none => s.setInputs ts
    | some p =>
      let s1 := s.setInputs (if (t.serve p).quiet = true then ts else t.serve p :: ts)
      if t.contended = true then s1.setArbSeq (s.arbSeq + 1) else s1

/-- The host port presents `w` before anything else (log 1). -/
def State.presentWord (s : State) (w : Word) : State :=
  s.setInputs ({ sample := none, trig := false, host := some w } :: s.inputs)

end Sys2Proof.Machine
end

