-- ==== Sys2Proof/Machine/Dispatch.lean ====
section
/-! DEFINITION. The dispatch of an operation to its meaning (R82), one arm per constructor of Instr. -/

namespace Sys2Proof.Machine

open Sys2Proof

def exec (i : Instr) (s : State) : Host.Outcome State Fault Refusal :=
  match i with
  | .nop => Sys2Proof.Machine.execNop s
  | .sample v => Sys2Proof.Machine.execSample v s
  | .exttrig => Sys2Proof.Machine.execExttrig s
  | .suspend => Sys2Proof.Machine.execSuspend s
  | .resume => Sys2Proof.Machine.execResume s
  | .wrcfgNCh imm => Sys2Proof.Machine.execWrcfgNCh imm s
  | .wrcfgPeriod imm => Sys2Proof.Machine.execWrcfgPeriod imm s
  | .wrcfgMode imm => Sys2Proof.Machine.execWrcfgMode imm s
  | .wrcfgTch imm => Sys2Proof.Machine.execWrcfgTch imm s
  | .wrcfgThr imm => Sys2Proof.Machine.execWrcfgThr imm s
  | .wrcfgPre imm => Sys2Proof.Machine.execWrcfgPre imm s
  | .wrcfgDly imm => Sys2Proof.Machine.execWrcfgDly imm s
  | .wrcfgNS imm => Sys2Proof.Machine.execWrcfgNS imm s
  | .wrcfgRes imm => Sys2Proof.Machine.execWrcfgRes imm s
  | .wrcfgSkip imm => Sys2Proof.Machine.execWrcfgSkip imm s
  | .apply fbr => Sys2Proof.Machine.execApply fbr s
  | .rdcfgNCh st => Sys2Proof.Machine.execRdcfgNCh st s
  | .rdcfgPeriod st => Sys2Proof.Machine.execRdcfgPeriod st s
  | .rdcfgMode st => Sys2Proof.Machine.execRdcfgMode st s
  | .rdcfgTch st => Sys2Proof.Machine.execRdcfgTch st s
  | .rdcfgThr st => Sys2Proof.Machine.execRdcfgThr st s
  | .rdcfgPre st => Sys2Proof.Machine.execRdcfgPre st s
  | .rdcfgDly st => Sys2Proof.Machine.execRdcfgDly st s
  | .rdcfgNS st => Sys2Proof.Machine.execRdcfgNS st s
  | .rdcfgRes st => Sys2Proof.Machine.execRdcfgRes st s
  | .rdcfgSkip st => Sys2Proof.Machine.execRdcfgSkip st s
  | .rdregStatus => Sys2Proof.Machine.execRdregStatus s
  | .rdregPivot => Sys2Proof.Machine.execRdregPivot s
  | .rdregStart => Sys2Proof.Machine.execRdregStart s
  | .rdregDlyCnt => Sys2Proof.Machine.execRdregDlyCnt s
  | .rdregSupCnt => Sys2Proof.Machine.execRdregSupCnt s
  | .rdregBufSize => Sys2Proof.Machine.execRdregBufSize s
  | .rdregCurChan => Sys2Proof.Machine.execRdregCurChan s
  | .rdregSkipCnt => Sys2Proof.Machine.execRdregSkipCnt s
  | .rdregCap => Sys2Proof.Machine.execRdregCap s
  | .rdregMaxCh => Sys2Proof.Machine.execRdregMaxCh s
  | .rdbuf ix => Sys2Proof.Machine.execRdbuf ix s
  | .rdwin ix => Sys2Proof.Machine.execRdwin ix s
  | .rdts h ix => Sys2Proof.Machine.execRdts h ix s
  | .rdlive0 => Sys2Proof.Machine.execRdlive0 s
  | .rdlive1 => Sys2Proof.Machine.execRdlive1 s
  | .rdlive2 => Sys2Proof.Machine.execRdlive2 s
  | .rdlive3 => Sys2Proof.Machine.execRdlive3 s
  | .rdlive4 => Sys2Proof.Machine.execRdlive4 s
  | .rdlive5 => Sys2Proof.Machine.execRdlive5 s
  | .acklive => Sys2Proof.Machine.execAcklive s
  | .ackcap => Sys2Proof.Machine.execAckcap s
  | .reset => Sys2Proof.Machine.execReset s

end Sys2Proof.Machine
end

