-- ==== Sys2Proof/Machine/Step.lean ====
section
/-! DEFINITION. One step: the next operation word is taken from the ports, decoded and performed (R4, R68). -/

namespace Sys2Proof.Machine

open Sys2Proof

/-- Perform one operation word: its operation, or ILLEGAL where it encodes none (R4, R223). -/
def performWord (w : Word) (s : State) : Host.Outcome State Fault Refusal :=
  match decode w with
  | some i => exec i s
  | none => execIllegal s

/-- One step of the machine: one operation, atomically (R4). -/
def step (s : State) : Host.Outcome State Fault Refusal := performWord s.fetchWord s.afterFetch

/-- The state with the given instruction presented on the host port, so that the very next step performs it
(log 1). -/
def State.withFetchWord (s : State) (nbits w : Nat) : State := s.presentWord (tableWord nbits w)

end Sys2Proof.Machine
end

