-- ==== Sys2Proof/Machine/Assembler.lean ====
section
/-! DEFINITION. The spec's textual form of an operation (R89) and its pseudo-operations (R90). Nothing in the machine
depends on them: a pseudo-operation has no encoding of its own. -/

namespace Sys2Proof.Machine

open Sys2Proof

/-- The name of a configuration field (R85). -/
def fieldText : CfgField → String
  | .nCh => "nCh"
  | .period => "period"
  | .mode => "mode"
  | .tch => "tch"
  | .thr => "thr"
  | .pre => "pre"
  | .dly => "dly"
  | .nS => "nS"
  | .res => "res"
  | .skip => "skip"

/-- `WRCFG idx, imm` (R89). -/
def textWrcfg (f : CfgField) (imm : Imm24) : String := "WRCFG " ++ fieldText f ++ ", " ++ toString imm.toNat

/-- `RDCFG idx` or `RDCFG.S idx` (R89). -/
def textRdcfg (f : CfgField) (st : Bool) : String := (if st = true then "RDCFG.S " else "RDCFG ") ++ fieldText f

/-- One operation as a line of assembler text, field operands by name, register operands by number, numbers in
decimal (R89). -/
def asmText : Instr → String
  | .nop => "NOP"
  | .sample v => "SAMPLE " ++ toString v.toNat
  | .exttrig => "EXTTRIG"
  | .suspend => "SUSPEND"
  | .resume => "RESUME"
  | .wrcfgNCh imm => textWrcfg .nCh imm
  | .wrcfgPeriod imm => textWrcfg .period imm
  | .wrcfgMode imm => textWrcfg .mode imm
  | .wrcfgTch imm => textWrcfg .tch imm
  | .wrcfgThr imm => textWrcfg .thr imm
  | .wrcfgPre imm => textWrcfg .pre imm
  | .wrcfgDly imm => textWrcfg .dly imm
  | .wrcfgNS imm => textWrcfg .nS imm
  | .wrcfgRes imm => textWrcfg .res imm
  | .wrcfgSkip imm => textWrcfg .skip imm
  | .apply fbr => if fbr = true then "APPLY force" else "APPLY"
  | .rdcfgNCh st => textRdcfg .nCh st
  | .rdcfgPeriod st => textRdcfg .period st
  | .rdcfgMode st => textRdcfg .mode st
  | .rdcfgTch st => textRdcfg .tch st
  | .rdcfgThr st => textRdcfg .thr st
  | .rdcfgPre st => textRdcfg .pre st
  | .rdcfgDly st => textRdcfg .dly st
  | .rdcfgNS st => textRdcfg .nS st
  | .rdcfgRes st => textRdcfg .res st
  | .rdcfgSkip st => textRdcfg .skip st
  | .rdregStatus => "RDREG 0"
  | .rdregPivot => "RDREG 1"
  | .rdregStart => "RDREG 2"
  | .rdregDlyCnt => "RDREG 3"
  | .rdregSupCnt => "RDREG 4"
  | .rdregBufSize => "RDREG 5"
  | .rdregCurChan => "RDREG 6"
  | .rdregSkipCnt => "RDREG 7"
  | .rdregCap => "RDREG 8"
  | .rdregMaxCh => "RDREG 9"
  | .rdbuf i => "RDBUF " ++ toString i.toNat
  | .rdwin i => "RDWIN " ++ toString i.toNat
  | .rdts h i => (if h = true then "RDTS.H " else "RDTS.L ") ++ toString i.toNat
  | .rdlive0 => "RDLIVE 0"
  | .rdlive1 => "RDLIVE 1"
  | .rdlive2 => "RDLIVE 2"
  | .rdlive3 => "RDLIVE 3"
  | .rdlive4 => "RDLIVE 4"
  | .rdlive5 => "RDLIVE 5"
  | .acklive => "ACKLIVE"
  | .ackcap => "ACKCAP"
  | .reset => "RESET"

/-- WRCFG of a field given as data. -/
def wrcfgOf (f : CfgField) (imm : Imm24) : Instr :=
  match f with
  | .nCh => .wrcfgNCh imm
  | .period => .wrcfgPeriod imm
  | .mode => .wrcfgMode imm
  | .tch => .wrcfgTch imm
  | .thr => .wrcfgThr imm
  | .pre => .wrcfgPre imm
  | .dly => .wrcfgDly imm
  | .nS => .wrcfgNS imm
  | .res => .wrcfgRes imm
  | .skip => .wrcfgSkip imm

/-- The pseudo-operations of R90. -/
inductive Pseudo where
  /-- `CONFIG f1=v1, f2=v2, ...` -/
  | config (settings : List (CfgField × Imm24))
  /-- `CRIT` -/
  | crit
  /-- `ENDCRIT` -/
  | endcrit
  /-- `LIVEGET n`, for `n` channels -/
  | liveget (n : Nat)
  /-- `DRAIN n` -/
  | drain (n : Nat)
  /-- `SAMPLES v1, v2, ...` -/
  | samples (vs : List Sample)
deriving DecidableEq, Repr

/-- `RDLIVE 0`, ..., `RDLIVE 5`. -/
def allRdlive : List Instr := [.rdlive0, .rdlive1, .rdlive2, .rdlive3, .rdlive4, .rdlive5]

/-- The exact expansion of a pseudo-operation (R90). DESIGN CHOICE (log 14), where an operand does not fit its field:
LIVEGET of more than MAXCH channels stops at the channels that have a word (R86), and DRAIN of more than `2^24` offsets
wraps the surplus ones modulo `2^24`, the width of RDWIN's operand (R84). -/
def Pseudo.expand : Pseudo → List Instr
  | .config settings => settings.map (fun p => wrcfgOf p.1 p.2) ++ [.apply false]
  | .crit => [.suspend]
  | .endcrit => [.resume]
  | .liveget n => allRdlive.take n ++ [.acklive]
  | .drain n => (List.range n).map (fun i => .rdwin (BitVec.ofNat 24 i)) ++ [.ackcap]
  | .samples vs => vs.map (fun v => .sample v)

end Sys2Proof.Machine
end

