-- ==== Sys2Proof/Safety.lean ====
section
/-! DEFINITION. The terms claims are stated in: the global invariants of a reachable state (R23, R24, R28, R29, R34,
R44), reachability, sequences of operations and of accepted samples, and the history a buffer holds (R65, R74). -/

namespace Sys2Proof.Machine

open Sys2Proof

/-- The invariants of the active configuration (R23). -/
abbrev CfgInv (c : Active) : Prop :=
  (1 ≤ c.nCh.toNat ∧ c.nCh.toNat ≤ 6) ∧ 2 ≤ c.nS.toNat ∧ c.nCh.toNat * c.nS.toNat ≤ 1200 ∧
  c.tch.toNat < c.nCh.toNat ∧ c.pre.toNat < c.nS.toNat ∧ c.thr.toNat ≤ 1023 ∧ c.dly.toNat ≤ 2000 ∧
  (1 ≤ c.period.toNat ∧ c.period.toNat ≤ 900000) ∧ c.mode.code.toNat ≤ 4 ∧ c.res.toNat ≤ 1 ∧ c.skip.toNat ≤ 65535

/-- The invariants of the buffer, the scheduler and the Live Sample Set: canonical form (log 7), `bufSize = nCh * nS`
(R24), nothing but zeros from `bufSize` on (R25), the ranges and the alignment of `pivot` and `curChan` (R26 to R28),
zeros in the live registers of channels not in use (R29). -/
abbrev BufInv (s : State) : Prop :=
  s.buf.wf = true ∧ s.bufSize.toNat = s.cfg.nCh.toNat * s.cfg.nS.toNat ∧ (∀ c ∈ s.buf, c.1 < s.bufSize.toNat) ∧
  s.pivot.toNat < s.bufSize.toNat ∧ s.curChan.toNat < s.cfg.nCh.toNat ∧
  s.pivot.toNat % s.cfg.nCh.toNat = s.curChan.toNat ∧
  (∀ c, c < 6 → s.cfg.nCh.toNat ≤ c → s.live.get c = 0)

/-- The invariants of the trigger registers (R31 to R34, R44), and that Live mode never fires (R142). -/
abbrev TrigInv (s : State) : Prop :=
  s.tstate ≠ .fired ∧ s.start.toNat < s.bufSize.toNat ∧ s.dlyCnt.toNat ≤ s.cfg.dly.toNat ∧
  (s.tstate = .idle → s.supCnt.toNat ≤ s.cfg.pre.toNat) ∧
  (s.tstate ≠ .idle → s.supCnt.toNat = s.cfg.pre.toNat + 1) ∧
  (s.tstate = .delay → 1 ≤ s.cfg.dly.toNat ∧ s.dlyCnt.toNat < s.cfg.dly.toNat) ∧
  (s.cfg.mode = .live → s.tstate = .idle ∨ s.tstate = .armed)

/-- The invariant of the capture-ready hold (R44). -/
abbrev AcqInv (s : State) : Prop := s.astate = .ready → s.tstate = .capturing ∧ s.pivot = s.start

/-- The global invariants of a state (R44, with R23, R24, R25, R28, R29, R34, R142). -/
abbrev GlobalInv (s : State) : Prop := CfgInv s.cfg ∧ BufInv s ∧ TrigInv s ∧ AcqInv s

/-- The states reached from reset, whatever the ports present and whenever they present it (R4, R44). -/
inductive Reachable : State → Prop where
  /-- the state after reset -/
  | reset : Reachable State.reset
  /-- the outside world may present other events at any time -/
  | present {s : State} (inputs : List Instant) : Reachable s → Reachable (s.setInputs inputs)
  /-- one step -/
  | step {s t : State} : Reachable s → Sys2Proof.Machine.step s = .next t → Reachable t

/-- Perform operations one after another. -/
def execAll : List Instr → State → Host.Outcome State Fault Refusal
  | [], s => .next s
  | i :: is, s =>
    match exec i s with
    | .next t => execAll is t
    | .fault f => .fault f
    | .refused r => .refused r

/-- One SAMPLE operation for each value. -/
def samples (vs : List Sample) : List Instr := vs.map (fun v => .sample v)

/-- The operations that only read (R66): RDBUF, RDWIN, RDTS, RDLIVE, RDCFG, RDREG. -/
def readsOnly : Instr → Bool
  | .rdbuf _ | .rdwin _ | .rdts _ _ => true
  | .rdlive0 | .rdlive1 | .rdlive2 | .rdlive3 | .rdlive4 | .rdlive5 => true
  | .rdcfgNCh _ | .rdcfgPeriod _ | .rdcfgMode _ | .rdcfgTch _ | .rdcfgThr _ | .rdcfgPre _ | .rdcfgDly _
  | .rdcfgNS _ | .rdcfgRes _ | .rdcfgSkip _ => true
  | .rdregStatus | .rdregPivot | .rdregStart | .rdregDlyCnt | .rdregSupCnt | .rdregBufSize | .rdregCurChan
  | .rdregSkipCnt | .rdregCap | .rdregMaxCh => true
  | _ => false

/-- WRCFG of any field. -/
def isWrcfg : Instr → Bool
  | .wrcfgNCh _ | .wrcfgPeriod _ | .wrcfgMode _ | .wrcfgTch _ | .wrcfgThr _ | .wrcfgPre _ | .wrcfgDly _
  | .wrcfgNS _ | .wrcfgRes _ | .wrcfgSkip _ => true
  | _ => false

/-- APPLY. -/
def isApply : Instr → Bool
  | .apply _ => true
  | _ => false

/-- SAMPLE. -/
def isSample : Instr → Bool
  | .sample _ => true
  | _ => false

/-- The sampling context's operations: SAMPLE and EXTTRIG (R241). -/
def samplingContext : Instr → Bool
  | .sample _ | .exttrig => true
  | _ => false

/-- The next SAMPLE is accepted (R163, R164). -/
abbrev Accepting (s : State) : Prop := s.susp = false ∧ s.astate = .run ∧ s.skipCnt = 0

/-- The sample `v` is an edge fire (R133, R135): ARMED, on channel `tch`, and a crossing its mode fires on, `prev`
being the sample of the same channel one channel-cycle earlier (R134). -/
abbrev EdgeFireAt (s : State) (v : Sample) : Prop :=
  s.tstate = .armed ∧ s.curChan = s.cfg.tch ∧
  ((s.cfg.mode = .rising ∨ s.cfg.mode = .either) ∧
      (s.buf.read ((s.pivot.toNat + s.bufSize.toNat - s.cfg.nCh.toNat) % s.bufSize.toNat)).toNat < s.cfg.thr.toNat ∧
      s.cfg.thr.toNat ≤ v.toNat ∨
    (s.cfg.mode = .falling ∨ s.cfg.mode = .either) ∧
      s.cfg.thr.toNat < (s.buf.read ((s.pivot.toNat + s.bufSize.toNat - s.cfg.nCh.toNat) % s.bufSize.toNat)).toNat ∧
      v.toNat ≤ s.cfg.thr.toNat)

/-- EXTTRIG fires (R140). -/
abbrev ExtFireAt (s : State) : Prop :=
  s.susp = false ∧ s.astate = .run ∧ s.cfg.mode = .external ∧ s.tstate = .armed

/-- The window's start by the formula of R136, in integers: `pivot + dly - tch - pre * nCh` modulo `bufSize`. -/
def startFormula (s : State) : Int :=
  ((s.pivot.toNat : Int) + (s.cfg.dly.toNat : Int) - (s.cfg.tch.toNat : Int)
    - (s.cfg.pre.toNat : Int) * (s.cfg.nCh.toNat : Int)) % (s.bufSize.toNat : Int)

/-- The table of R43. -/
abbrev ResetTable (s : State) : Prop :=
  (s.cfg.nCh.toNat = 1 ∧ s.cfg.period.toNat = 1 ∧ s.cfg.mode = .live ∧ s.cfg.tch.toNat = 0 ∧ s.cfg.thr.toNat = 0 ∧
    s.cfg.pre.toNat = 0 ∧ s.cfg.dly.toNat = 0 ∧ s.cfg.nS.toNat = 2 ∧ s.cfg.res.toNat = 0 ∧ s.cfg.skip.toNat = 0) ∧
  (s.staged.nCh.toNat = 1 ∧ s.staged.period.toNat = 1 ∧ s.staged.mode.toNat = 0 ∧ s.staged.tch.toNat = 0 ∧
    s.staged.thr.toNat = 0 ∧ s.staged.pre.toNat = 0 ∧ s.staged.dly.toNat = 0 ∧ s.staged.nS.toNat = 2 ∧
    s.staged.res.toNat = 0 ∧ s.staged.skip.toNat = 0) ∧
  (∀ j, s.buf.read j = 0) ∧ s.bufSize.toNat = 2 ∧ s.pivot.toNat = 0 ∧ s.curChan.toNat = 0 ∧
  (∀ c, s.live.get c = 0) ∧ s.tstate = .idle ∧ s.dlyCnt.toNat = 0 ∧ s.start.toNat = 0 ∧ s.supCnt.toNat = 0 ∧
  s.skipCnt.toNat = 0 ∧ s.astate = .run ∧ s.susp = true ∧ s.liveAvail = false ∧ s.ill = false

/-- APPLY `fbr` resets the buffer (R182, R185). -/
abbrev ApplyResetsBuffer (fbr : Bool) (s : State) : Prop :=
  fbr = true ∨ (clampRequest s.staged).nCh ≠ s.cfg.nCh ∨ (clampRequest s.staged).nS ≠ s.cfg.nS ∨
    (clampRequest s.staged).res ≠ s.cfg.res

/-- The operation writes slot `j`: an accepted SAMPLE with `pivot = j`, or a `BufReset()`, which writes every slot
(R64, R116, R261). -/
def writesSlot (j : Nat) (i : Instr) (s : State) : Bool :=
  match i with
  | .sample _ => decide (Accepting s ∧ s.pivot.toNat = j)
  | .apply fbr => decide (ApplyResetsBuffer fbr s)
  | .ackcap => decide (s.astate = .ready)
  | .reset => true
  | _ => false

/-- None of the operations, performed one after another, writes slot `j`: the "no operation between that writes slot
`i`" of R64. -/
def keepsSlot (j : Nat) : List Instr → State → Bool
  | [], _ => true
  | i :: is, s =>
    !writesSlot j i s &&
      match exec i s with
      | .next t => keepsSlot j is t
      | .fault _ => true
      | .refused _ => true

/-- The accepted samples since the last `BufReset()`, oldest first, after the operation `i` in the state `s`, where
`vs` were those before it (R65, R116, R261). -/
def historyAfter (i : Instr) (s : State) (vs : List Sample) : List Sample :=
  match i with
  | .sample v => if Accepting s then vs ++ [v] else vs
  | .apply fbr => if ApplyResetsBuffer fbr s then [] else vs
  | .ackcap => if s.astate = .ready then [] else vs
  | .reset => []
  | _ => vs

/-- The buffer holds the history `vs` of accepted samples since the last `BufReset()` (R65): `pivot` is their number
modulo `bufSize`, the slot of each of the last `bufSize` of them holds it, and slots not yet written hold 0. -/
abbrev HoldsHistory (s : State) (vs : List Sample) : Prop :=
  s.pivot.toNat = vs.length % s.bufSize.toNat ∧
  (∀ m, m < vs.length → vs.length ≤ m + s.bufSize.toNat → s.buf.read (m % s.bufSize.toNat) = vs.getD m 0) ∧
  (∀ j, j < s.bufSize.toNat → vs.length ≤ j → s.buf.read j = 0)

/-- The number of accepted samples after the firing sample until READY, for an edge fire in this state (R174): `E` of
them until CAPTURING is entered, and the rest until `pivot` meets `start`. -/
def edgeCompletionCount (s : State) : Nat :=
  let nCh : Int := s.cfg.nCh.toNat
  let dly : Int := s.cfg.dly.toNat
  let E : Int := dly * nCh
  (E + (dly - (s.cfg.tch.toNat : Int) - (s.cfg.pre.toNat : Int) * nCh - 1 - E) % (s.bufSize.toNat : Int)).toNat

/-- The number of accepted samples after the event until READY, for an external fire in this state (R174). -/
def externalCompletionCount (s : State) : Nat :=
  let nCh : Int := s.cfg.nCh.toNat
  let dly : Int := s.cfg.dly.toNat
  let tch : Int := s.cfg.tch.toNat
  let pre : Int := s.cfg.pre.toNat
  let B : Int := s.bufSize.toNat
  let E : Int := (tch - (s.curChan.toNat : Int)) % nCh + 1 + (dly - 1) * nCh
  if s.cfg.dly = 0 then (1 + (-tch - pre * nCh - 1) % B).toNat else (E + (dly - tch - pre * nCh - E) % B).toNat

/-- The number of accepted samples until READY while a capture is outstanding (R138, R168, R174): 0 once READY; in
CAPTURING the distance from `pivot` to `start`, from 1 to `bufSize`; in DELAY the accepted samples that still enter
CAPTURING, and from there the rest. -/
def samplesLeft (s : State) : Nat :=
  let B : Int := s.bufSize.toNat
  let gap : Int := (s.start.toNat : Int) - (s.pivot.toNat : Int)
  let E : Int := ((s.cfg.tch.toNat : Int) - (s.curChan.toNat : Int)) % (s.cfg.nCh.toNat : Int) + 1 +
    ((s.cfg.dly.toNat : Int) - (s.dlyCnt.toNat : Int) - 1) * (s.cfg.nCh.toNat : Int)
  if s.astate = .ready then 0
  else if s.tstate = .capturing then (1 + (gap - 1) % B).toNat
  else (E + (gap - E) % B).toNat

/-- `n` steps, stopping at the first fault or refusal. -/
def runSteps : Nat → State → Host.Outcome State Fault Refusal
  | 0, s => .next s
  | n + 1, s =>
    match Sys2Proof.Machine.step s with
    | .next t => runSteps n t
    | .fault f => .fault f
    | .refused r => .refused r

/-- The words an instant presents, in no particular order (R5). -/
def Instant.words (t : Instant) : List Word := [t.word .trig, t.word .sample, t.word .host].filterMap id

/-- The operation words taken by the arbiter one after another. -/
def fetchMany : Nat → State → List Word
  | 0, _ => []
  | n + 1, s => s.fetchWord :: fetchMany n s.afterFetch

/-- The state after as many arbitrations. -/
def afterMany : Nat → State → State
  | 0, s => s
  | n + 1, s => afterMany n s.afterFetch

end Sys2Proof.Machine
end

