-- ==== Sys2Proof/Certificates/Slice0/Obligations.lean ====
section
/-! DEFINITION. The statements for the provers. Each says what an operation, a rule or the whole machine does; the
rules of spec/ it rests on stand in its comment and in OBLIGATIONS.json. -/

open Sys2Proof Sys2Proof.Machine

/-- Decoding the encoding of an operation gives it back (R81, R82, R84, R85). -/
def Obligations.DecodeEncodeRoundTrip : Prop :=
  ∀ i : Instr, decode (encode i) = some i

/-- A legal word is the encoding of the one operation it decodes to (R80, R81, R86). -/
def Obligations.EncodeDecodeRoundTrip : Prop :=
  ∀ (w : Word) (i : Instr), decode w = some i → encode i = w

/-- The encoding of every operation as a number: match plus operand (R81, R82, R85, R87). -/
def Obligations.EncodingsAreTheTableNumbers : Prop :=
  (∀ v : Sample, (encode (.sample v)).toNat = 0x10000000 + v.toNat) ∧
  (∀ imm : Imm24,
    (encode (.wrcfgNCh imm)).toNat = 0x50000000 + 0 * 2 ^ 24 + imm.toNat ∧
    (encode (.wrcfgPeriod imm)).toNat = 0x50000000 + 1 * 2 ^ 24 + imm.toNat ∧
    (encode (.wrcfgMode imm)).toNat = 0x50000000 + 2 * 2 ^ 24 + imm.toNat ∧
    (encode (.wrcfgTch imm)).toNat = 0x50000000 + 3 * 2 ^ 24 + imm.toNat ∧
    (encode (.wrcfgThr imm)).toNat = 0x50000000 + 4 * 2 ^ 24 + imm.toNat ∧
    (encode (.wrcfgPre imm)).toNat = 0x50000000 + 5 * 2 ^ 24 + imm.toNat ∧
    (encode (.wrcfgDly imm)).toNat = 0x50000000 + 6 * 2 ^ 24 + imm.toNat ∧
    (encode (.wrcfgNS imm)).toNat = 0x50000000 + 7 * 2 ^ 24 + imm.toNat ∧
    (encode (.wrcfgRes imm)).toNat = 0x50000000 + 8 * 2 ^ 24 + imm.toNat ∧
    (encode (.wrcfgSkip imm)).toNat = 0x50000000 + 9 * 2 ^ 24 + imm.toNat) ∧
  (∀ b : Bool,
    (encode (.apply b)).toNat = 0x60000000 + b.toNat ∧
    (encode (.rdcfgNCh b)).toNat = 0x70000000 + 0 * 2 ^ 24 + b.toNat ∧
    (encode (.rdcfgPeriod b)).toNat = 0x70000000 + 1 * 2 ^ 24 + b.toNat ∧
    (encode (.rdcfgMode b)).toNat = 0x70000000 + 2 * 2 ^ 24 + b.toNat ∧
    (encode (.rdcfgTch b)).toNat = 0x70000000 + 3 * 2 ^ 24 + b.toNat ∧
    (encode (.rdcfgThr b)).toNat = 0x70000000 + 4 * 2 ^ 24 + b.toNat ∧
    (encode (.rdcfgPre b)).toNat = 0x70000000 + 5 * 2 ^ 24 + b.toNat ∧
    (encode (.rdcfgDly b)).toNat = 0x70000000 + 6 * 2 ^ 24 + b.toNat ∧
    (encode (.rdcfgNS b)).toNat = 0x70000000 + 7 * 2 ^ 24 + b.toNat ∧
    (encode (.rdcfgRes b)).toNat = 0x70000000 + 8 * 2 ^ 24 + b.toNat ∧
    (encode (.rdcfgSkip b)).toNat = 0x70000000 + 9 * 2 ^ 24 + b.toNat) ∧
  (∀ (h : Bool) (i : Imm24), (encode (.rdbuf i)).toNat = 0x90000000 + i.toNat ∧
    (encode (.rdwin i)).toNat = 0xA0000000 + i.toNat ∧
    (encode (.rdts h i)).toNat = 0xB0000000 + h.toNat * 2 ^ 24 + i.toNat) ∧
  [Instr.nop, .exttrig, .suspend, .resume, .acklive, .ackcap, .reset].map (fun i => (encode i).toNat) =
    [0, 0x20000000, 0x30000000, 0x40000000, 0xD0000000, 0xE0000000, 0xF0000000] ∧
  [Instr.rdregStatus, .rdregPivot, .rdregStart, .rdregDlyCnt, .rdregSupCnt, .rdregBufSize, .rdregCurChan,
    .rdregSkipCnt, .rdregCap, .rdregMaxCh].map (fun i => (encode i).toNat) =
    (List.range 10).map (fun k => 0x80000000 + k * 2 ^ 24) ∧
  allRdlive.map (fun i => (encode i).toNat) = (List.range 6).map (fun c => 0xC0000000 + c)

/-- A word is ILLEGAL exactly when one of the three listed conditions holds (R86). -/
def Obligations.WordsAreIllegalExactlyAsListed : Prop :=
  ∀ w : Word,
  (legalWord w = false → decode w = none ∧ ∀ s : State, performWord w s = .next { s with ill := true, rdata := 0 }) ∧
  (legalWord w = true → ∃ i, decode w = some i ∧ ∀ s : State, performWord w s = exec i s)

/-- The match-and-mask table alone decides what a word is (R87). -/
def Obligations.EveryWordSelectsAtMostOneRow : Prop :=
  ∀ w : Word, (tableRows.filter (fun r => r.selects w) = [] ∧ decode w = none) ∨
  ∃ r i, tableRows.filter (fun r => r.selects w) = [r] ∧ decode w = some i ∧ i.mnemonic = r.mnemonic

/-- Words written out from the format table decode to their operations (R81, R82, R85, R223). -/
def Obligations.WrittenWordsDecode : Prop :=
  decode (0b0001_0000_000000000000001000000000#32) = some (.sample 512) ∧
  decode (0b0010_0000_000000000000000000000000#32) = some .exttrig ∧
  decode (0b0101_0100_000000000001001110001000#32) = some (.wrcfgThr 5000) ∧
  decode (0b0110_0000_000000000000000000000001#32) = some (.apply true) ∧
  decode (0b0111_1001_000000000000000000000001#32) = some (.rdcfgSkip true) ∧
  decode (0b1000_0101_000000000000000000000000#32) = some .rdregBufSize ∧
  decode (0b1001_0000_111111111111111111111111#32) = some (.rdbuf 0xFFFFFF) ∧
  decode (0b1010_0000_111111111111111111111111#32) = some (.rdwin 0xFFFFFF) ∧
  decode (0b1011_0001_000000000000000000010011#32) = some (.rdts true 19) ∧
  decode (0b1100_0000_000000000000000000000101#32) = some .rdlive5 ∧
  decode (0b1111_0000_000000000000000000000000#32) = some .reset ∧
  decode (0b0001_0000_000000000000010000000000#32) = none ∧
  decode (0b0101_1010_000000000000000000000000#32) = none

/-- A step performs the operation its word decodes to (R4, R5, R68). -/
def Obligations.StepPerformsTheDecodedOperation : Prop :=
  (∀ (s : State) (i : Instr), decode s.fetchWord = some i → step s = exec i s.afterFetch) ∧
  (∀ (s : State) (w : Word) (i : Instr), decode w = some i → step (s.presentWord w) = exec i s) ∧
  (∀ (s : State) (nbits w : Nat) (i : Instr), decodeTableWord nbits w = some i →
    step (s.withFetchWord nbits w) = exec i s)

/-- An ILLEGAL word sets ill, returns 0 and changes nothing else (R223), whichever port and instant it is taken from. -/
def Obligations.IllegalWordSetsOnlyIll : Prop :=
  (∀ s : State, decode s.fetchWord = none → step s = .next { s.afterFetch with ill := true, rdata := 0 }) ∧
  (∀ (s : State) (w : Word), decode w = none → performWord w s = .next { s with ill := true, rdata := 0 }) ∧
  (∀ (s : State) (w : Word), decode w = none → step (s.presentWord w) = .next { s with ill := true, rdata := 0 }) ∧
  decode (0x10000400#32) = none ∧ decode (0x5A000000#32) = none

/-- No operation in any state traps, faults, stalls or stops the engine (R4, R16, R230). -/
def Obligations.EveryStepAnswersNext : Prop :=
  (∀ s : State, ∃ t, step s = .next t) ∧ (∀ (i : Instr) (s : State), ∃ t, exec i s = .next t) ∧
  (∀ (w : Word) (s : State), ∃ t, performWord w s = .next t)

/-- A cycle in which nothing is presented is a NOP (the model's choice, log 3) (R220, R250): when nothing more will be
presented, and when the ports are quiet at the next instant only, which is then past. -/
def Obligations.QuietStepIsNop : Prop :=
  (∀ s : State, s.inputs = [] → step s = .next { s with rdata := 0 }) ∧
  (∀ (s : State) (t : Instant) (ts : List Instant), s.inputs = t :: ts → t.quiet = true →
    step s = .next { s with inputs := ts, rdata := 0 })

/-- The events of one instant are serialised, each once, in some order (R5, R69, R236). That all of them are served
before those of the next instant is the model's choice (log 2), and the counter `arbSeq` is its own field. -/
def Obligations.ArbiterServesEveryEventOnce : Prop :=
  ∀ (s : State) (t : Instant) (ts : List Instant), s.inputs = t :: ts → t.quiet = false →
  (fetchMany t.words.length s).Perm t.words ∧
  ∃ k, afterMany t.words.length s = { s with inputs := ts, arbSeq := k }

/-- RESET, from any state, and power-on leave every element at its value of the table (R43, R221). -/
def Obligations.ResetLeavesTheTable : Prop :=
  ResetTable State.reset ∧ decode (0xF0000000#32) = some .reset ∧
  ∀ s : State, ∃ t, exec .reset s = .next t ∧ ResetTable t ∧ t.rdata = 0

/-- RESET gives the state after reset but for the model's own port fields, which it leaves as they are (the model's
choice, log 11; the result word 0 at reset is log 4). -/
def Obligations.ResetKeepsThePorts : Prop :=
  ∀ s : State, exec .reset s = .next { State.reset with inputs := s.inputs, arbSeq := s.arbSeq }

/-- Every step keeps the global invariants (R23, R24, R28, R34, R44). -/
def Obligations.StepKeepsTheInvariant : Prop :=
  ∀ s t : State, GlobalInv s → step s = .next t → GlobalInv t

/-- The reset state meets the global invariants (R43, R44). -/
def Obligations.ResetMeetsTheInvariant : Prop :=
  GlobalInv State.reset

/-- Every state reachable from reset meets the global invariants, whatever the ports present (R44). -/
def Obligations.ReachableStatesMeetTheInvariant : Prop :=
  ∀ s : State, Reachable s → CfgInv s.cfg ∧ s.bufSize.toNat = s.cfg.nCh.toNat * s.cfg.nS.toNat ∧
  s.pivot.toNat < s.bufSize.toNat ∧ s.start.toNat < s.bufSize.toNat ∧ s.curChan.toNat < s.cfg.nCh.toNat ∧
  s.pivot.toNat % s.cfg.nCh.toNat = s.curChan.toNat ∧ s.dlyCnt.toNat ≤ s.cfg.dly.toNat ∧
  s.supCnt.toNat ≤ s.cfg.pre.toNat + 1 ∧ s.tstate.code.toNat ∈ [0, 1, 3, 4] ∧
  (s.tstate = .delay → 1 ≤ s.cfg.dly.toNat ∧ s.dlyCnt.toNat < s.cfg.dly.toNat) ∧
  (s.astate = .ready → s.tstate = .capturing ∧ s.pivot = s.start) ∧ (∀ f, (s.staged.get f).toNat < 2 ^ 24)

/-- Every step keeps the buffer's canonical form (the model's representation, log 7) (R25, R60). -/
def Obligations.StepKeepsTheBufferCanonical : Prop :=
  ∀ s t : State, s.buf.wf = true → step s = .next t → t.buf.wf = true

/-- WRCFG stores its operand, unchecked, in its staged register and changes nothing else (R181). -/
def Obligations.WrcfgStagesTheOperand : Prop :=
  ∀ (imm : Imm24) (s : State),
  exec (.wrcfgNCh imm) s = .next { s with staged := { s.staged with nCh := imm }, rdata := 0 } ∧
  exec (.wrcfgPeriod imm) s = .next { s with staged := { s.staged with period := imm }, rdata := 0 } ∧
  exec (.wrcfgMode imm) s = .next { s with staged := { s.staged with mode := imm }, rdata := 0 } ∧
  exec (.wrcfgTch imm) s = .next { s with staged := { s.staged with tch := imm }, rdata := 0 } ∧
  exec (.wrcfgThr imm) s = .next { s with staged := { s.staged with thr := imm }, rdata := 0 } ∧
  exec (.wrcfgPre imm) s = .next { s with staged := { s.staged with pre := imm }, rdata := 0 } ∧
  exec (.wrcfgDly imm) s = .next { s with staged := { s.staged with dly := imm }, rdata := 0 } ∧
  exec (.wrcfgNS imm) s = .next { s with staged := { s.staged with nS := imm }, rdata := 0 } ∧
  exec (.wrcfgRes imm) s = .next { s with staged := { s.staged with res := imm }, rdata := 0 } ∧
  exec (.wrcfgSkip imm) s = .next { s with staged := { s.staged with skip := imm }, rdata := 0 }

/-- APPLY makes the clamped request active; the result is legal and clamping is idempotent (R183). -/
def Obligations.ApplyClampsTheRequest : Prop :=
  ∀ (fbr : Bool) (s : State), ∃ t, exec (.apply fbr) s = .next t ∧
  t.cfg.nCh.toNat = max 1 (min s.staged.nCh.toNat 6) ∧ t.cfg.period.toNat = max 1 (min s.staged.period.toNat 900000) ∧
  t.cfg.mode.code.toNat = min s.staged.mode.toNat 4 ∧
  t.cfg.nS.toNat = max 2 (min s.staged.nS.toNat (1200 / t.cfg.nCh.toNat)) ∧
  t.cfg.tch.toNat = min s.staged.tch.toNat (t.cfg.nCh.toNat - 1) ∧ t.cfg.thr.toNat = min s.staged.thr.toNat 1023 ∧
  t.cfg.pre.toNat = min s.staged.pre.toNat (t.cfg.nS.toNat - 1) ∧ t.cfg.dly.toNat = min s.staged.dly.toNat 2000 ∧
  t.cfg.res.toNat = min s.staged.res.toNat 1 ∧ t.cfg.skip.toNat = min s.staged.skip.toNat 65535 ∧
  CfgInv t.cfg ∧ clampRequest t.staged = t.cfg

/-- After APPLY and after RESET the staged registers equal the active fields (R184). -/
def Obligations.StagedEqualsActiveAfterApplyAndReset : Prop :=
  (∀ (fbr : Bool) (s : State), ∃ t, exec (.apply fbr) s = .next t ∧
    ∀ f, (t.staged.get f).setWidth 32 = t.cfg.word f) ∧
  (∀ s : State, ∃ t, exec .reset s = .next t ∧ ∀ f, (t.staged.get f).setWidth 32 = t.cfg.word f)

/-- What APPLY resets, what it keeps, and the flags it returns (R185, R187, R191). -/
def Obligations.ApplyResetsAndReports : Prop :=
  ∀ (fbr : Bool) (s : State), ∃ t, exec (.apply fbr) s = .next t ∧ t.cfg = clampRequest s.staged ∧
  t.tstate = .idle ∧ t.dlyCnt = 0 ∧ t.start = 0 ∧ t.supCnt = 0 ∧ t.astate = .run ∧ t.skipCnt = 0 ∧
  t.susp = s.susp ∧ t.ill = s.ill ∧ t.inputs = s.inputs ∧ t.arbSeq = s.arbSeq ∧
  (if fbr = true ∨ t.cfg.nCh ≠ s.cfg.nCh ∨ t.cfg.nS ≠ s.cfg.nS ∨ t.cfg.res ≠ s.cfg.res then
    (∀ j, t.buf.read j = 0) ∧ t.pivot = 0 ∧ t.bufSize.toNat = t.cfg.nCh.toNat * t.cfg.nS.toNat ∧ t.curChan = 0 ∧
    (∀ c, t.live.get c = 0) ∧ t.liveAvail = false
  else
    (∀ j, t.buf.read j = s.buf.read j) ∧ t.pivot = s.pivot ∧ t.bufSize = s.bufSize ∧ t.curChan = s.curChan ∧
    (∀ c, t.live.get c = s.live.get c) ∧ t.liveAvail = s.liveAvail) ∧
  t.rdata.toNat = (if t.cfg.res ≠ s.cfg.res then 4 else 0) + 2 +
    (if fbr = true ∨ t.cfg.nCh ≠ s.cfg.nCh ∨ t.cfg.nS ≠ s.cfg.nS ∨ t.cfg.res ≠ s.cfg.res then 1 else 0)

/-- RDCFG returns the active field, RDCFG.S the staged register, and changes nothing (R188). -/
def Obligations.RdcfgReturnsTheField : Prop :=
  ∀ s : State,
  exec (.rdcfgNCh false) s = .next { s with rdata := s.cfg.nCh.setWidth 32 } ∧
  exec (.rdcfgNCh true) s = .next { s with rdata := s.staged.nCh.setWidth 32 } ∧
  exec (.rdcfgPeriod false) s = .next { s with rdata := s.cfg.period.setWidth 32 } ∧
  exec (.rdcfgPeriod true) s = .next { s with rdata := s.staged.period.setWidth 32 } ∧
  exec (.rdcfgMode false) s = .next { s with rdata := s.cfg.mode.code.setWidth 32 } ∧
  exec (.rdcfgMode true) s = .next { s with rdata := s.staged.mode.setWidth 32 } ∧
  exec (.rdcfgTch false) s = .next { s with rdata := s.cfg.tch.setWidth 32 } ∧
  exec (.rdcfgTch true) s = .next { s with rdata := s.staged.tch.setWidth 32 } ∧
  exec (.rdcfgThr false) s = .next { s with rdata := s.cfg.thr.setWidth 32 } ∧
  exec (.rdcfgThr true) s = .next { s with rdata := s.staged.thr.setWidth 32 } ∧
  exec (.rdcfgPre false) s = .next { s with rdata := s.cfg.pre.setWidth 32 } ∧
  exec (.rdcfgPre true) s = .next { s with rdata := s.staged.pre.setWidth 32 } ∧
  exec (.rdcfgDly false) s = .next { s with rdata := s.cfg.dly.setWidth 32 } ∧
  exec (.rdcfgDly true) s = .next { s with rdata := s.staged.dly.setWidth 32 } ∧
  exec (.rdcfgNS false) s = .next { s with rdata := s.cfg.nS.setWidth 32 } ∧
  exec (.rdcfgNS true) s = .next { s with rdata := s.staged.nS.setWidth 32 } ∧
  exec (.rdcfgRes false) s = .next { s with rdata := s.cfg.res.setWidth 32 } ∧
  exec (.rdcfgRes true) s = .next { s with rdata := s.staged.res.setWidth 32 } ∧
  exec (.rdcfgSkip false) s = .next { s with rdata := s.cfg.skip.setWidth 32 } ∧
  exec (.rdcfgSkip true) s = .next { s with rdata := s.staged.skip.setWidth 32 }

/-- RDREG returns the engine register of its number, zero-extended, and changes nothing (R41, R189). -/
def Obligations.RdregReturnsTheRegister : Prop :=
  (∀ s : State,
    exec .rdregStatus s = .next { s with rdata := s.status } ∧
    exec .rdregPivot s = .next { s with rdata := s.pivot.setWidth 32 } ∧
    exec .rdregStart s = .next { s with rdata := s.start.setWidth 32 } ∧
    exec .rdregDlyCnt s = .next { s with rdata := s.dlyCnt.setWidth 32 } ∧
    exec .rdregSupCnt s = .next { s with rdata := s.supCnt.setWidth 32 } ∧
    exec .rdregBufSize s = .next { s with rdata := s.bufSize.setWidth 32 } ∧
    exec .rdregCurChan s = .next { s with rdata := s.curChan.setWidth 32 } ∧
    exec .rdregSkipCnt s = .next { s with rdata := s.skipCnt.setWidth 32 } ∧
    exec .rdregCap s = .next { s with rdata := 1200 } ∧
    exec .rdregMaxCh s = .next { s with rdata := 6 }) ∧
  (∀ k, 10 ≤ k → k < 16 → decode (BitVec.ofNat 32 (0x80000000 + k * 2 ^ 24)) = none) ∧
  [EngReg.status, .pivot, .start, .dlyCnt, .supCnt, .bufSize, .curChan, .skipCnt, .cap, .maxch].map
    State.reset.engReg = [4, 0, 0, 0, 0, 2, 0, 0, 1200, 6]

/-- The STATUS word, bit by bit (R40). -/
def Obligations.StatusWordLayout : Prop :=
  (∀ s : State, ∃ r : Word, exec .rdregStatus s = .next { s with rdata := r } ∧
    r.toNat = (if s.astate = .ready then 1 else 0) + 2 * s.liveAvail.toNat + 4 * s.susp.toNat + 8 * s.ill.toNat +
      16 * s.tstate.code.toNat + 256 * s.curChan.toNat +
      4096 * (if s.susp = false ∧ s.astate = .run then 1 else 0)) ∧
  exec .rdregStatus State.reset = .next { State.reset with rdata := 0x00000004 }

/-- The level outputs are the stated functions of the state (R5, R36, R103, R160). -/
def Obligations.LevelOutputsFollowTheState : Prop :=
  ∀ s : State, (s.capRdy = true ↔ s.astate = .ready) ∧ s.outLiveAvail = s.liveAvail ∧ s.chanSel = s.curChan ∧
  (s.samplingEn = true ↔ s.susp = false ∧ s.astate = .run) ∧ s.cfgPeriod = s.cfg.period

/-- RDBUF reads the slot of its index modulo bufSize and changes nothing (R115). -/
def Obligations.RdbufReadsTheReducedSlot : Prop :=
  ∀ (i : Imm24) (s : State),
  exec (.rdbuf i) s = .next { s with rdata := (s.buf.read (i.toNat % s.bufSize.toNat)).setWidth 32 }

/-- RDWIN returns value, channel, group and the valid bit of a window offset (R201). -/
def Obligations.RdwinReturnsTheWindowWord : Prop :=
  ∀ (i : Imm24) (s : State), GlobalInv s → ∃ r : Word, exec (.rdwin i) s = .next { s with rdata := r } ∧
  r.toNat = (s.buf.read ((s.start.toNat + i.toNat % s.bufSize.toNat) % s.bufSize.toNat)).toNat +
    2 ^ 10 * ((s.start.toNat + i.toNat % s.bufSize.toNat) % s.bufSize.toNat % s.cfg.nCh.toNat) +
    2 ^ 13 * (i.toNat % s.bufSize.toNat / s.cfg.nCh.toNat) + 2 ^ 31 * (if s.astate = .ready then 1 else 0)

/-- RDTS.L and RDTS.H return the two halves of the signed 64-bit timestamp (R204, R205). -/
def Obligations.RdtsReturnsTheTimestamp : Prop :=
  ∀ (i : Imm24) (s : State), GlobalInv s → ∃ (lo hi : Word) (ts : Int),
  exec (.rdts false i) s = .next { s with rdata := lo } ∧ exec (.rdts true i) s = .next { s with rdata := hi } ∧
  ts = (((i.toNat % s.bufSize.toNat / s.cfg.nCh.toNat : Nat) : Int) - (s.cfg.pre.toNat : Int) + (s.cfg.dly.toNat : Int))
    * (s.cfg.period.toNat : Int) ∧
  (hi ++ lo).toInt = ts ∧ -1079100000 ≤ ts ∧ ts ≤ 2879100000 ∧ hi = (if ts < 0 then 0xFFFFFFFF else 0)

/-- RDLIVE returns the live register of its channel and changes nothing (R207). -/
def Obligations.RdliveReturnsTheChannel : Prop :=
  (∀ s : State,
    exec .rdlive0 s = .next { s with rdata := s.live.ch0.setWidth 32 } ∧
    exec .rdlive1 s = .next { s with rdata := s.live.ch1.setWidth 32 } ∧
    exec .rdlive2 s = .next { s with rdata := s.live.ch2.setWidth 32 } ∧
    exec .rdlive3 s = .next { s with rdata := s.live.ch3.setWidth 32 } ∧
    exec .rdlive4 s = .next { s with rdata := s.live.ch4.setWidth 32 } ∧
    exec .rdlive5 s = .next { s with rdata := s.live.ch5.setWidth 32 }) ∧
  (∀ s : State, GlobalInv s → ∀ c, c < 6 → s.cfg.nCh.toNat ≤ c → s.live.get c = 0) ∧
  decode (0xC0000006#32) = none ∧ decode (0xC0000007#32) = none

/-- The read operations change nothing but the result and can be repeated (R66). -/
def Obligations.ReadsChangeNoState : Prop :=
  ∀ (i : Instr) (s : State), readsOnly i = true →
  ∃ t, exec i s = .next t ∧ t = { s with rdata := t.rdata } ∧ exec i t = .next t

/-- A slot written by an accepted SAMPLE reads back as written until something writes it (R64, R112, R115): after any
operations that do not write that slot, whatever they are. In particular (last clause) after any operations without
APPLY, ACKCAP and RESET among which fewer than bufSize are SAMPLEs. -/
def Obligations.SampledSlotReadsBack : Prop :=
  ∀ (v : Sample) (s : State), GlobalInv s → Accepting s → ∃ t, exec (.sample v) s = .next t ∧
  ∀ (is : List Instr) (i : Imm24), i.toNat % s.bufSize.toNat = s.pivot.toNat →
    (keepsSlot s.pivot.toNat is t = true → ∃ u, execAll (is ++ [.rdbuf i]) t = .next u ∧ u.rdata = v.setWidth 32) ∧
    ((∀ x ∈ is, isApply x = false ∧ x ≠ .ackcap ∧ x ≠ .reset) →
      (is.filter isSample).length < s.bufSize.toNat → keepsSlot s.pivot.toNat is t = true)

/-- ACKLIVE clears liveAvail, returns 0 and changes nothing else (R208). -/
def Obligations.AckliveClearsTheFlag : Prop :=
  decode (0xD0000000#32) = some .acklive ∧ ∀ s : State, exec .acklive s = .next { s with liveAvail := false, rdata := 0 }

/-- NOP returns 0 and leaves the state as it was (R220). -/
def Obligations.NopChangesNothing : Prop :=
  decode (0x00000000#32) = some .nop ∧ ∀ s : State, exec .nop s = .next { s with rdata := 0 }

/-- SUSPEND sets susp and RESUME clears it, and neither changes anything else (R170, R171). -/
def Obligations.SuspendAndResumeWriteOneBit : Prop :=
  decode (0x30000000#32) = some .suspend ∧ decode (0x40000000#32) = some .resume ∧
  (∀ s : State, exec .suspend s = .next { s with susp := true, rdata := 0 } ∧
    exec .resume s = .next { s with susp := false, rdata := 0 }) ∧
  (∀ s : State, s.susp = false → execAll [.suspend, .sample 5, .resume] s = .next { s with rdata := 0 }) ∧
  (∃ t, execAll [.sample 1, .resume, .sample 2] State.reset = .next t ∧ t.buf.read 0 = 2)

/-- ACKCAP in READY clears the buffer, the trigger and the hold; in RUN it does nothing (R172). -/
def Obligations.AckcapResetsAReadyWindow : Prop :=
  decode (0xE0000000#32) = some .ackcap ∧
  (∀ s : State, GlobalInv s → s.astate = .ready → ∃ t, exec .ackcap s = .next t ∧
    (∀ j, t.buf.read j = 0) ∧ (∀ c, t.live.get c = 0) ∧ t.bufSize = s.bufSize ∧
    t = { s with buf := t.buf, live := t.live, bufSize := t.bufSize, pivot := 0, curChan := 0, liveAvail := false,
                 tstate := .idle, dlyCnt := 0, start := 0, supCnt := 0, astate := .run, skipCnt := 0, rdata := 0 }) ∧
  (∀ s : State, s.astate = .run → exec .ackcap s = .next { s with rdata := 0 })

/-- A SAMPLE while suspended or READY is dropped (R163). -/
def Obligations.SampleIsDroppedWhileDisabled : Prop :=
  ∀ (v : Sample) (s : State), s.susp = true ∨ s.astate = .ready →
  exec (.sample v) s = .next { s with rdata := 0 }

/-- After an accepted sample the next skip conversions are discarded and the one after is accepted; a discarded one
only counts skipCnt down (R164). -/
def Obligations.ThrottleDiscardsThenAccepts : Prop :=
  (∀ (v : Sample) (s : State), s.susp = false → s.astate = .run → s.skipCnt ≠ 0 →
    exec (.sample v) s = .next { s with skipCnt := s.skipCnt - 1, rdata := 0 }) ∧
  (∀ (v : Sample) (ws : List Sample) (s t : State), Accepting s → exec (.sample v) s = .next t → t.astate = .run →
    ws.length ≤ s.cfg.skip.toNat →
    ∃ u, execAll (samples ws) t = .next u ∧ u = { t with skipCnt := u.skipCnt } ∧
      u.skipCnt.toNat = s.cfg.skip.toNat - ws.length ∧ (ws.length = s.cfg.skip.toNat → Accepting u))

/-- An accepted SAMPLE stores its value, marks the live group and advances pivot and channel (R101, R102, R112, R113, R162, R165, R166). -/
def Obligations.AcceptedSampleStoresAndAdvances : Prop :=
  ∀ (v : Sample) (s : State), GlobalInv s → Accepting s → ∃ t, exec (.sample v) s = .next t ∧
  (∀ j, t.buf.read j = if j = s.pivot.toNat then v else s.buf.read j) ∧
  (∀ c, c < 6 → t.live.get c = if c = s.curChan.toNat then v else s.live.get c) ∧
  t.pivot.toNat = (s.pivot.toNat + 1) % s.bufSize.toNat ∧
  t.curChan.toNat = (s.curChan.toNat + 1) % s.cfg.nCh.toNat ∧
  t.liveAvail = (s.liveAvail || decide (s.curChan.toNat = s.cfg.nCh.toNat - 1)) ∧ t.skipCnt = s.cfg.skip ∧
  t.cfg = s.cfg ∧ t.staged = s.staged ∧ t.bufSize = s.bufSize ∧ t.susp = s.susp ∧ t.ill = s.ill ∧
  t.inputs = s.inputs ∧ t.arbSeq = s.arbSeq ∧ t.rdata = 0

/-- What an accepted SAMPLE does to the trigger registers and to astate (R132, R133, R134, R136, R138, R139, R168). -/
def Obligations.AcceptedSampleMovesTheTrigger : Prop :=
  ∀ (v : Sample) (s : State), GlobalInv s → Accepting s → ∃ t, exec (.sample v) s = .next t ∧
  (s.tstate = .idle →
    t.start = s.start ∧ t.dlyCnt = s.dlyCnt ∧
    if s.curChan.toNat + 1 = s.cfg.nCh.toNat then
      t.supCnt.toNat = s.supCnt.toNat + 1 ∧
      t.tstate = if s.supCnt.toNat + 1 = s.cfg.pre.toNat + 1 then .armed else .idle
    else t.supCnt = s.supCnt ∧ t.tstate = .idle) ∧
  (s.tstate ≠ .idle → t.supCnt = s.supCnt) ∧
  (s.tstate = .armed →
    if EdgeFireAt s v then
      (t.start.toNat : Int) = startFormula s ∧ t.dlyCnt = 0 ∧
      t.tstate = if s.cfg.dly = 0 then .capturing else .delay
    else t.start = s.start ∧ t.dlyCnt = s.dlyCnt ∧ t.tstate = .armed) ∧
  (s.tstate = .delay → t.start = s.start ∧
    if s.curChan = s.cfg.tch then
      t.dlyCnt.toNat = s.dlyCnt.toNat + 1 ∧
      t.tstate = if s.dlyCnt.toNat + 1 = s.cfg.dly.toNat then .capturing else .delay
    else t.dlyCnt = s.dlyCnt ∧ t.tstate = .delay) ∧
  (s.tstate = .capturing → t.start = s.start ∧ t.dlyCnt = s.dlyCnt ∧ t.tstate = .capturing) ∧
  (t.astate = if t.tstate = .capturing ∧ t.pivot = t.start then .ready else .run)

/-- EXTTRIG fires when sampling is enabled, External mode and ARMED, and is else dropped (R140). -/
def Obligations.ExttrigFiresOnlyWhenEligible : Prop :=
  decode (0x20000000#32) = some .exttrig ∧
  (∀ s : State, GlobalInv s → ExtFireAt s → ∃ x : BitVec 11, (x.toNat : Int) = startFormula s ∧
    exec .exttrig s = .next { s with start := x, dlyCnt := 0, rdata := 0,
                                     tstate := if s.cfg.dly = 0 then .capturing else .delay }) ∧
  (∀ s : State, ¬ ExtFireAt s → exec .exttrig s = .next { s with rdata := 0 })

/-- norm(x, B) is the unique representative of x in [0, B) (R11). -/
def Obligations.NormIsTheFloorModulus : Prop :=
  (∀ (x : Int) (B : Nat), 1 ≤ B →
    norm x B < B ∧ (B : Int) ∣ (norm x B : Int) - x ∧ ∀ r : Nat, r < B → (B : Int) ∣ (r : Int) - x → r = norm x B) ∧
  norm (-5) 20 = 15 ∧ norm 42 100 = 42 ∧ norm 2001 2 = 1 ∧ norm 20 20 = 0

/-- The start formula: worked values, and the inner norm may be dropped (R137). -/
def Obligations.StartFormulaWorkedValues : Prop :=
  startOf 50 3 100 1 5 2 = 42 ∧ startOf 12 0 20 0 3 2 = 6 ∧ startOf 2 0 20 1 3 2 = 15 ∧
  startOf 1 2000 2 0 1 1 = 0 ∧ startOf 0 0 2 0 0 1 = 0 ∧ startOf 1199 2000 1200 0 1199 1 = 800 ∧
  ∀ pivot dly B tch pre nCh : Nat, 1 ≤ B →
    startOf pivot dly B tch pre nCh = norm ((pivot : Int) + dly - tch - pre * nCh) B

/-- Which crossings fire in which mode (R135). -/
def Obligations.EdgeConditions : Prop :=
  ∀ prev thr cur : Sample,
  (edgeFires .rising prev thr cur = true ↔ prev.toNat < thr.toNat ∧ thr.toNat ≤ cur.toNat) ∧
  (edgeFires .falling prev thr cur = true ↔ thr.toNat < prev.toNat ∧ cur.toNat ≤ thr.toNat) ∧
  (edgeFires .either prev thr cur = true ↔
    (prev.toNat < thr.toNat ∧ thr.toNat ≤ cur.toNat) ∨ (thr.toNat < prev.toNat ∧ cur.toNat ≤ thr.toNat)) ∧
  edgeFires .live prev thr cur = false ∧ edgeFires .external prev thr cur = false ∧
  (prev = thr → ∀ m, edgeFires m prev thr cur = false) ∧
  (cur = thr → (prev.toNat < thr.toNat → edgeFires .rising prev thr cur = true) ∧
    (thr.toNat < prev.toNat → edgeFires .falling prev thr cur = true)) ∧
  ¬(edgeFires .rising prev thr cur = true ∧ edgeFires .falling prev thr cur = true) ∧
  (thr = 0 → edgeFires .rising prev thr cur = false ∧
    (edgeFires .falling prev thr cur = true ↔ 0 < prev.toNat ∧ cur = 0)) ∧
  (thr = 1023 → edgeFires .falling prev thr cur = false ∧
    (edgeFires .rising prev thr cur = true ↔ prev.toNat < 1023 ∧ cur = 1023)) ∧
  (thr.toNat < prev.toNat → thr.toNat < cur.toNat → ∀ m, edgeFires m prev thr cur = false) ∧
  (prev.toNat < thr.toNat → cur.toNat < thr.toNat → ∀ m, edgeFires m prev thr cur = false) ∧
  edgeFires .rising 498 500 502 = true ∧ edgeFires .rising 502 500 498 = false ∧
  edgeFires .either 498 500 502 = true ∧ edgeFires .either 502 500 498 = true

/-- susp is written by SUSPEND, RESUME and RESET and by nothing else (R37). -/
def Obligations.OnlySuspendResumeResetWriteSusp : Prop :=
  (∀ (i : Instr) (s t : State), exec i s = .next t →
    (i = .suspend ∨ i = .reset → t.susp = true) ∧ (i = .resume → t.susp = false) ∧
    (i ≠ .suspend → i ≠ .reset → i ≠ .resume → t.susp = s.susp)) ∧
  (∀ (w : Word) (s t : State), decode w = none → performWord w s = .next t → t.susp = s.susp) ∧
  (∀ (i : Instr) (s : State), samplingContext i = true → s.susp = true → exec i s = .next { s with rdata := 0 }) ∧
  State.reset.susp = true

/-- ill is set by an ILLEGAL word, cleared by RESET, and written by nothing else (R39). -/
def Obligations.IllIsStickyUntilReset : Prop :=
  (∀ (i : Instr) (s t : State), exec i s = .next t → t.ill = if i = .reset then false else s.ill) ∧
  (∀ (w : Word) (s t : State), decode w = none → performWord w s = .next t → t.ill = true) ∧
  State.reset.ill = false

/-- The active configuration is written only by APPLY and RESET, the staged one also by WRCFG (R21, R22, R23). -/
def Obligations.OnlyApplyAndResetWriteTheConfiguration : Prop :=
  ∀ (i : Instr) (s t : State), exec i s = .next t → isApply i = false → i ≠ .reset →
  t.cfg = s.cfg ∧ (isWrcfg i = false → t.staged = s.staged) ∧ (i ≠ .ackcap → t.bufSize = s.bufSize)

/-- What SAMPLE and EXTTRIG may touch (R242). -/
def Obligations.SamplingContextTouchesOnlyItsOwn : Prop :=
  ∀ (i : Instr) (s t : State), samplingContext i = true → GlobalInv s → exec i s = .next t →
  t.cfg = s.cfg ∧ t.staged = s.staged ∧ t.susp = s.susp ∧ t.ill = s.ill ∧ t.bufSize = s.bufSize ∧
  (∀ j, j ≠ s.pivot.toNat → t.buf.read j = s.buf.read j) ∧
  (∀ c, c ≠ s.curChan.toNat → t.live.get c = s.live.get c) ∧ (t.astate = .run → s.astate = .run)

/-- The trigger, the sequencing registers and the hold are moved only by the five stated operations (R30, R144, R169, R243). -/
def Obligations.OnlyTheStatedOperationsMoveTheTrigger : Prop :=
  ∀ (i : Instr) (s t : State), exec i s = .next t → samplingContext i = false → isApply i = false → i ≠ .reset →
  (i = .ackcap → s.astate = .run) →
  t.tstate = s.tstate ∧ t.dlyCnt = s.dlyCnt ∧ t.start = s.start ∧ t.supCnt = s.supCnt ∧ t.skipCnt = s.skipCnt ∧
  t.astate = s.astate ∧ t.buf = s.buf ∧ t.pivot = s.pivot ∧ t.curChan = s.curChan ∧ t.live = s.live ∧
  t.liveAvail = (if i = .acklive then false else s.liveAvail)

/-- A capture outstanding is not re-fired, and only APPLY or RESET abandons it before READY (R133, R141, R173). -/
def Obligations.OnlyReconfigurationAbandonsACapture : Prop :=
  ∀ (i : Instr) (s t : State), exec i s = .next t → (s.tstate = .delay ∨ s.tstate = .capturing) →
  isApply i = false → i ≠ .reset → (i = .ackcap → s.astate = .run) →
  (t.tstate = .delay ∨ t.tstate = .capturing) ∧ t.start = s.start ∧ (s.tstate = .capturing → t.tstate = .capturing)

/-- In Live mode no sequence of operations without APPLY or RESET fires or becomes READY (R142). -/
def Obligations.LiveModeNeverCompletes : Prop :=
  ∀ (is : List Instr) (s : State), GlobalInv s → s.cfg.mode = .live → (∀ i ∈ is, isApply i = false ∧ i ≠ .reset) →
  ∃ t, execAll is s = .next t ∧ t.cfg = s.cfg ∧ (t.tstate = .idle ∨ t.tstate = .armed) ∧ t.astate = .run

/-- While suspended or READY, events and host reads leave one consistent snapshot (R66, R70). -/
def Obligations.SuspensionGivesOneSnapshot : Prop :=
  ∀ (n : Nat) (s : State), s.susp = true ∨ s.astate = .ready →
  (∀ t ∈ s.inputs, ∀ w, t.host = some w → ∃ i, decode w = some i ∧ readsOnly i = true) →
  ∃ t, runSteps n s = .next t ∧ t = { s with inputs := t.inputs, arbSeq := t.arbSeq, rdata := t.rdata }

/-- The first pre + 1 channel-cycles after a trigger reset cannot fire (R132). -/
def Obligations.SettlingSuppressesTheTrigger : Prop :=
  ∀ s : State, GlobalInv s → s.tstate = .idle → s.supCnt = 0 →
  (∀ is : List Instr, (∀ i ∈ is, samplingContext i = true) →
    (is.filter isSample).length + s.curChan.toNat < (s.cfg.pre.toNat + 1) * s.cfg.nCh.toNat →
    ∃ t, execAll is s = .next t ∧ t.tstate = .idle ∧ t.astate = .run) ∧
  (∀ vs : List Sample, Accepting s → s.cfg.skip = 0 →
    vs.length + s.curChan.toNat = (s.cfg.pre.toNat + 1) * s.cfg.nCh.toNat →
    ∃ t, execAll (samples vs) s = .next t ∧ t.tstate = .armed)

/-- The buffer always holds the most recent bufSize accepted samples (R65, R110, R112, R113, R116). -/
def Obligations.BufferHoldsTheRecentHistory : Prop :=
  (∀ (i : Instr) (s t : State) (vs : List Sample), GlobalInv s → HoldsHistory s vs → exec i s = .next t →
    HoldsHistory t (historyAfter i s vs)) ∧
  (∀ s : State, GlobalInv s → s.pivot = 0 → (∀ j, s.buf.read j = 0) → HoldsHistory s []) ∧ HoldsHistory State.reset []

/-- A READY window reads out the last bufSize accepted samples, oldest first (R74, R201, R203). -/
def Obligations.ReadyWindowIsChronological : Prop :=
  ∀ (s : State) (vs : List Sample) (i : Imm24), GlobalInv s → s.astate = .ready → HoldsHistory s vs →
  i.toNat < s.bufSize.toNat → ∃ t, exec (.rdwin i) s = .next t ∧ t.rdata.getLsbD 31 = true ∧
    (t.rdata.setWidth 10 : Sample) = if s.bufSize.toNat ≤ vs.length + i.toNat
      then vs.getD (vs.length + i.toNat - s.bufSize.toNat) 0 else 0

/-- An outstanding capture counts down to READY: each accepted sample takes one off the number left, no other operation
that keeps the capture changes it, READY is reached at 0, and a fire starts it at the count of R174. This holds with
the throttle on and with any operations between the samples (R138, R139, R168, R174). -/
def Obligations.OutstandingCaptureCountsDown : Prop :=
  (∀ (i : Instr) (s t : State), GlobalInv s → (s.tstate = .delay ∨ s.tstate = .capturing) → isApply i = false →
    i ≠ .reset → (i = .ackcap → s.astate = .run) → exec i s = .next t →
    samplesLeft t = if isSample i = true ∧ Accepting s then samplesLeft s - 1 else samplesLeft s) ∧
  (∀ s : State, GlobalInv s → (s.tstate = .delay ∨ s.tstate = .capturing) →
    (s.astate = .ready ↔ samplesLeft s = 0)) ∧
  (∀ (v : Sample) (s : State), GlobalInv s → Accepting s → EdgeFireAt s v →
    ∃ t, exec (.sample v) s = .next t ∧ samplesLeft t = edgeCompletionCount s) ∧
  (∀ s : State, GlobalInv s → ExtFireAt s →
    ∃ t, exec .exttrig s = .next t ∧ samplesLeft t = externalCompletionCount s)

/-- After an edge fire, with the throttle off and nothing but samples following, the window completes in the K-th
sample, and not before (R168, R174). -/
def Obligations.EdgeCaptureCompletesAfterTheStatedCount : Prop :=
  ∀ (v : Sample) (ws : List Sample) (s : State), GlobalInv s → Accepting s → s.cfg.skip = 0 → EdgeFireAt s v →
  ws.length ≤ edgeCompletionCount s →
  ∃ t, execAll (samples (v :: ws)) s = .next t ∧ (t.astate = .ready ↔ ws.length = edgeCompletionCount s)

/-- After an external fire, with the throttle off and nothing but samples following, the window completes in the K-th
sample, and not before (R140, R168, R174). -/
def Obligations.ExternalCaptureCompletesAfterTheStatedCount : Prop :=
  ∀ (ws : List Sample) (s : State), GlobalInv s → Accepting s → s.cfg.skip = 0 → ExtFireAt s →
  ws.length ≤ externalCompletionCount s →
  ∃ t, execAll (.exttrig :: samples ws) s = .next t ∧ (t.astate = .ready ↔ ws.length = externalCompletionCount s)

/-- With no delay, the throttle off and nothing but samples following, the firing sample is at channel tch, group pre of
the completed window (R174, R201, R203). -/
def Obligations.EdgeCaptureHoldsTheFiringSample : Prop :=
  ∀ (v : Sample) (ws : List Sample) (s : State), GlobalInv s → Accepting s → s.cfg.skip = 0 → s.cfg.dly = 0 →
  EdgeFireAt s v → ws.length = edgeCompletionCount s →
  ∃ t u, execAll (samples (v :: ws)) s = .next t ∧
    exec (.rdwin (BitVec.ofNat 24 (s.cfg.tch.toNat + s.cfg.pre.toNat * s.cfg.nCh.toNat))) t = .next u ∧
    u.rdata.toNat = v.toNat + 2 ^ 10 * s.cfg.tch.toNat + 2 ^ 13 * s.cfg.pre.toNat + 2 ^ 31

/-- DRAIN of a READY window leaves the engine settling again, ready for the next capture (R90, R143, R172). For n above
2^24 the expansion is the model's choice (log 14). -/
def Obligations.DrainReturnsToSettling : Prop :=
  ∀ (n : Nat) (s : State), GlobalInv s → s.astate = .ready → ∃ t, execAll (Pseudo.expand (.drain n)) s = .next t ∧
  t.cfg = s.cfg ∧ t.staged = s.staged ∧ (∀ j, t.buf.read j = 0) ∧ t.bufSize = s.bufSize ∧ t.pivot = 0 ∧
  t.curChan = 0 ∧ t.tstate = .idle ∧ t.supCnt = 0 ∧ t.astate = .run ∧ t.susp = s.susp ∧ t.ill = s.ill
end

