-- ==== Sys2Proof/Laws/Arith.lean ====
section
/-! SUPPORT. What `norm` and `clamp` compute, and the values of the parameters. -/

namespace Sys2Proof.Machine

open Sys2Proof

@[simp] theorem CAP_eq : Config.CAP = 1200 := rfl
@[simp] theorem MAXCH_eq : Config.MAXCH = 6 := rfl
@[simp] theorem MAXTHR_eq : Config.MAXTHR = 1023 := rfl
@[simp] theorem MAXPER_eq : Config.MAXPER = 900000 := rfl
@[simp] theorem MAXDLY_eq : Config.MAXDLY = 2000 := rfl
@[simp] theorem MINNS_eq : Config.MINNS = 2 := rfl
@[simp] theorem MAXSKIP_eq : Config.MAXSKIP = 65535 := rfl

/-- For a modulus that is not 0, `norm` is the floor modulus, as an integer. -/
theorem norm_cast_eq (x : Int) {B : Nat} (h : 0 < B) : (norm x B : Int) = x % (B : Int) :=
  Int.toNat_of_nonneg (Int.emod_nonneg x (by omega))

/-- `norm` lands below its modulus. -/
theorem norm_lt (x : Int) {B : Nat} (h : 0 < B) : norm x B < B := by
  have h1 := norm_cast_eq x h
  have h2 := Int.emod_lt_of_pos x (show (0 : Int) < (B : Int) by omega)
  omega

/-- On a natural number `norm` is the remainder. -/
@[simp] theorem norm_natCast (n B : Nat) : norm (n : Int) B = n % B := by
  unfold norm
  rw [← Int.natCast_mod]
  exact Int.toNat_natCast _

/-- `norm` of a sum of two natural numbers. -/
@[simp] theorem norm_add_natCast (m n B : Nat) : norm ((m : Int) + (n : Int)) B = (m + n) % B := by
  rw [← norm_natCast, Int.natCast_add]

/-- `norm` sees only the residue of its argument. -/
theorem norm_congr {x y : Int} {B : Nat} (h : x % (B : Int) = y % (B : Int)) : norm x B = norm y B := by
  unfold norm
  rw [h]

/-- `clamp` between ordered bounds is the value pushed up, then down. -/
theorem clamp_eq (v lo hi : Nat) (h : lo ≤ hi) : clamp v lo hi = min hi (max lo v) := by
  unfold clamp
  split
  · omega
  · split <;> omega

/-- `clamp` lands between its bounds. -/
theorem clamp_bounds (v lo hi : Nat) (h : lo ≤ hi) : lo ≤ clamp v lo hi ∧ clamp v lo hi ≤ hi := by
  rw [clamp_eq v lo hi h]
  omega

/-- `clamp` leaves a value within its bounds. -/
theorem clamp_of_mem {v lo hi : Nat} (h1 : lo ≤ v) (h2 : v ≤ hi) : clamp v lo hi = v := by
  unfold clamp
  split
  · omega
  · split
    · omega
    · rfl

end Sys2Proof.Machine
end

