-- ==== Sys2Proof/Laws/Encoding.lean ====
section
/-! SUPPORT. The three fields of a word and the word of three fields, as numbers and as each other's inverses. -/

namespace Sys2Proof

/-- A word as a number, from its fields (R81). -/
theorem mkWord_toNat (op mid : BitVec 4) (low : Imm24) :
    (mkWord op mid low).toNat = op.toNat * 2 ^ 28 + mid.toNat * 2 ^ 24 + low.toNat := by
  unfold mkWord
  rw [BitVec.toNat_append, BitVec.toNat_append, ← Nat.shiftLeft_add_eq_or_of_lt low.isLt,
    ← Nat.shiftLeft_add_eq_or_of_lt mid.isLt]
  simp only [Nat.shiftLeft_eq]
  omega

/-- The opcode field as a number (R80). -/
theorem fieldOp_toNat (w : Word) : (fieldOp w).toNat = w.toNat / 2 ^ 28 := by
  have := w.isLt
  rw [fieldOp, BitVec.extractLsb'_toNat, Nat.shiftRight_eq_div_pow]
  omega

/-- Bits 27:24 as a number (R81). -/
theorem fieldMid_toNat (w : Word) : (fieldMid w).toNat = w.toNat / 2 ^ 24 % 16 := by
  rw [fieldMid, BitVec.extractLsb'_toNat, Nat.shiftRight_eq_div_pow]

/-- Bits 23:0 as a number (R81). -/
theorem fieldLow_toNat (w : Word) : (fieldLow w).toNat = w.toNat % 2 ^ 24 := by
  rw [fieldLow, BitVec.extractLsb'_toNat, Nat.shiftRight_eq_div_pow]
  omega

@[simp] theorem fieldOp_mkWord (op mid : BitVec 4) (low : Imm24) : fieldOp (mkWord op mid low) = op := by
  apply BitVec.eq_of_toNat_eq
  rw [fieldOp_toNat, mkWord_toNat]
  omega

@[simp] theorem fieldMid_mkWord (op mid : BitVec 4) (low : Imm24) : fieldMid (mkWord op mid low) = mid := by
  apply BitVec.eq_of_toNat_eq
  rw [fieldMid_toNat, mkWord_toNat]
  omega

@[simp] theorem fieldLow_mkWord (op mid : BitVec 4) (low : Imm24) : fieldLow (mkWord op mid low) = low := by
  apply BitVec.eq_of_toNat_eq
  rw [fieldLow_toNat, mkWord_toNat]
  omega

/-- A word is the word of its fields. -/
@[simp] theorem mkWord_fields (w : Word) : mkWord (fieldOp w) (fieldMid w) (fieldLow w) = w := by
  apply BitVec.eq_of_toNat_eq
  rw [mkWord_toNat, fieldOp_toNat, fieldMid_toNat, fieldLow_toNat]
  omega

/-- Masking a word masks its fields, so a row of the table is a condition on each field (R87). -/
theorem mkWord_and (a b a' b' : BitVec 4) (c c' : Imm24) :
    mkWord a b c &&& mkWord a' b' c' = mkWord (a &&& a') (b &&& b') (c &&& c') := by
  unfold mkWord
  rw [BitVec.and_append, BitVec.and_append]

/-- Two words of fields are equal when their fields are. -/
theorem mkWord_inj {a b a' b' : BitVec 4} {c c' : Imm24} :
    mkWord a b c = mkWord a' b' c' ↔ a = a' ∧ b = b' ∧ c = c' := by
  constructor
  · intro h
    have h1 := congrArg fieldOp h
    have h2 := congrArg fieldMid h
    have h3 := congrArg fieldLow h
    simp only [fieldOp_mkWord, fieldMid_mkWord, fieldLow_mkWord] at h1 h2 h3
    exact ⟨h1, h2, h3⟩
  · rintro ⟨rfl, rfl, rfl⟩
    rfl

end Sys2Proof
end

