-- ==== Sys2Proof/Laws/Memory.lean ====
section
/-! SUPPORT. The circular buffer's cells: every operation keeps the canonical form, a read after a write gives the
value written, and a write leaves every other slot alone. -/

namespace Sys2Proof.Machine

open Sys2Proof

/-- A greater lower bound holds of fewer lists. -/
theorem Memory.wfFrom_mono {lo lo' : Nat} {m : Memory} (h : lo' ≤ lo) (hm : Memory.wfFrom lo m = true) :
    Memory.wfFrom lo' m = true := by
  cases m with
  | nil => rfl
  | cons c m =>
    obtain ⟨a, v⟩ := c
    simp only [Memory.wfFrom, Bool.and_eq_true, decide_eq_true_eq] at hm ⊢
    exact ⟨⟨⟨by omega, hm.1.1.2⟩, hm.1.2⟩, hm.2⟩

/-- Below the lowest listed slot every slot reads as unlisted. -/
theorem Memory.read_below {lo a : Nat} {m : Memory} (hm : Memory.wfFrom lo m = true) (h : a < lo) :
    Memory.read m a = unlistedSlot := by
  induction m generalizing lo with
  | nil => rfl
  | cons c m ih =>
    obtain ⟨b, v⟩ := c
    simp only [Memory.wfFrom, Bool.and_eq_true, decide_eq_true_eq] at hm
    rw [Memory.read, if_neg (by omega)]
    exact ih hm.2 (by omega)

/-- `put` keeps the canonical form. -/
theorem Memory.put_wfFrom {lo a : Nat} {m : Memory} (v : Sample) (hm : Memory.wfFrom lo m = true) (hlo : lo ≤ a)
    (ha : a < Config.CAP) : Memory.wfFrom lo (Memory.put m a v) = true := by
  induction m generalizing lo with
  | nil =>
    unfold Memory.put
    split
    · rfl
    · simp_all [Memory.wfFrom]
  | cons c m ih =>
    obtain ⟨b, w⟩ := c
    have hm' := hm
    simp only [Memory.wfFrom, Bool.and_eq_true, decide_eq_true_eq] at hm'
    obtain ⟨⟨⟨h1, h2⟩, h3⟩, h4⟩ := hm'
    unfold Memory.put
    split
    · split
      · exact hm
      · simp_all [Memory.wfFrom]
    · split
      · split
        · exact Memory.wfFrom_mono (by omega) h4
        · simp_all [Memory.wfFrom]
      · have := ih h4 (by omega)
        simp_all [Memory.wfFrom]

/-- What `put` makes every slot read as. -/
theorem Memory.read_put {lo : Nat} {m : Memory} (a b : Nat) (v : Sample) (hm : Memory.wfFrom lo m = true) :
    Memory.read (Memory.put m a v) b = if b = a then v else Memory.read m b := by
  induction m generalizing lo with
  | nil =>
    unfold Memory.put
    split
    · rename_i h
      simp [Memory.read, h]
    · simp [Memory.read]
  | cons c m ih =>
    obtain ⟨d, w⟩ := c
    have hm' := hm
    simp only [Memory.wfFrom, Bool.and_eq_true, decide_eq_true_eq] at hm'
    obtain ⟨⟨⟨h1, h2⟩, h3⟩, h4⟩ := hm'
    have hbelow : ∀ x, x ≤ d → Memory.read m x = unlistedSlot := fun x hx => Memory.read_below h4 (by omega)
    unfold Memory.put
    split
    · rename_i had
      split
      · rename_i hv
        split
        · rename_i hb
          subst hb
          rw [Memory.read, if_neg (by omega), hbelow _ (by omega), hv]
        · rfl
      · rfl
    · split
      · rename_i had
        subst had
        split
        · rename_i hv
          split
          · rename_i hb
            subst hb
            rw [hbelow _ (by omega), hv]
          · rename_i hb
            rw [Memory.read, if_neg hb]
        · simp only [Memory.read]
          split <;> rfl
      · simp only [Memory.read, ih h4]
        split
        · rename_i hb
          rw [if_neg (by omega)]
        · rfl

/-- Writing a slot keeps the canonical form. -/
theorem Memory.write_wf {m : Memory} (a : Nat) (v : Sample) (hm : Memory.wf m = true) :
    Memory.wf (Memory.write m a v) = true := by
  unfold Memory.write
  split
  · rename_i h
    exact Memory.put_wfFrom v hm (Nat.zero_le a) h
  · exact hm

/-- Zeroing the buffer gives the canonical form. -/
theorem Memory.zero_wf : Memory.wf Memory.zero = true := rfl

/-- The zeroed buffer reads 0 in every slot (R116). -/
@[simp] theorem Memory.read_zero (a : Nat) : Memory.read Memory.zero a = 0 := rfl

/-- What writing a physical slot makes every slot read as (R64). -/
theorem Memory.read_write {m : Memory} {a : Nat} (b : Nat) (v : Sample) (hm : Memory.wf m = true) (ha : a < 1200) :
    Memory.read (Memory.write m a v) b = if b = a then v else Memory.read m b := by
  rw [Memory.write, if_pos (show a < Config.CAP from ha)]
  exact Memory.read_put a b v hm

/-- The slots listed after a write are those listed before, and perhaps the slot written. -/
theorem Memory.mem_put {m : Memory} {a : Nat} {v : Sample} {c : Nat × Sample} (h : c ∈ Memory.put m a v) :
    c ∈ m ∨ c = (a, v) := by
  induction m with
  | nil =>
    unfold Memory.put at h
    split at h <;> simp_all
  | cons d m ih =>
    obtain ⟨b, w⟩ := d
    unfold Memory.put at h
    split at h
    · split at h <;> simp_all
      tauto
    · split at h
      · split at h <;> simp_all
        tauto
      · simp only [List.mem_cons] at h ⊢
        rcases h with h | h
        · exact .inl (.inl h)
        · rcases ih h with h | h
          · exact .inl (.inr h)
          · exact .inr h

/-- A slot number bound on the listed slots survives a write below it. -/
theorem Memory.write_listed_below {m : Memory} {a n : Nat} {v : Sample} (hm : ∀ c ∈ m, c.1 < n) (ha : a < n) :
    ∀ c ∈ Memory.write m a v, c.1 < n := by
  intro c hc
  unfold Memory.write at hc
  split at hc
  · rcases Memory.mem_put hc with h | h
    · exact hm c h
    · rw [h]
      exact ha
  · exact hm c hc

/-- A slot that is not listed reads 0. -/
theorem Memory.read_of_not_listed {m : Memory} {a : Nat} (h : ∀ c ∈ m, c.1 ≠ a) : Memory.read m a = 0 := by
  induction m with
  | nil => rfl
  | cons c m ih =>
    obtain ⟨b, w⟩ := c
    rw [Memory.read, if_neg (fun hab => h (b, w) (by simp) hab.symm)]
    exact ih (fun c hc => h c (by simp [hc]))

end Sys2Proof.Machine
end

