-- ==== Sys2Proof/Laws/State.lean ====
section
/-! SUPPORT. What each single-field update of State leaves and writes: one lemma per field per update, true by
rfl, so that no later proof unfolds a record update. -/

namespace Sys2Proof.Machine

variable (s : State)

section
variable (x : Staged)

@[simp] theorem State.setStaged_staged : (s.setStaged x).staged = x := rfl
@[simp] theorem State.setStaged_cfg : (s.setStaged x).cfg = s.cfg := rfl
@[simp] theorem State.setStaged_buf : (s.setStaged x).buf = s.buf := rfl
@[simp] theorem State.setStaged_bufSize : (s.setStaged x).bufSize = s.bufSize := rfl
@[simp] theorem State.setStaged_pivot : (s.setStaged x).pivot = s.pivot := rfl
@[simp] theorem State.setStaged_curChan : (s.setStaged x).curChan = s.curChan := rfl
@[simp] theorem State.setStaged_live : (s.setStaged x).live = s.live := rfl
@[simp] theorem State.setStaged_tstate : (s.setStaged x).tstate = s.tstate := rfl
@[simp] theorem State.setStaged_dlyCnt : (s.setStaged x).dlyCnt = s.dlyCnt := rfl
@[simp] theorem State.setStaged_start : (s.setStaged x).start = s.start := rfl
@[simp] theorem State.setStaged_supCnt : (s.setStaged x).supCnt = s.supCnt := rfl
@[simp] theorem State.setStaged_skipCnt : (s.setStaged x).skipCnt = s.skipCnt := rfl
@[simp] theorem State.setStaged_astate : (s.setStaged x).astate = s.astate := rfl
@[simp] theorem State.setStaged_susp : (s.setStaged x).susp = s.susp := rfl
@[simp] theorem State.setStaged_liveAvail : (s.setStaged x).liveAvail = s.liveAvail := rfl
@[simp] theorem State.setStaged_ill : (s.setStaged x).ill = s.ill := rfl
@[simp] theorem State.setStaged_rdata : (s.setStaged x).rdata = s.rdata := rfl
@[simp] theorem State.setStaged_inputs : (s.setStaged x).inputs = s.inputs := rfl
@[simp] theorem State.setStaged_arbSeq : (s.setStaged x).arbSeq = s.arbSeq := rfl

end

section
variable (x : Active)

@[simp] theorem State.setCfg_staged : (s.setCfg x).staged = s.staged := rfl
@[simp] theorem State.setCfg_cfg : (s.setCfg x).cfg = x := rfl
@[simp] theorem State.setCfg_buf : (s.setCfg x).buf = s.buf := rfl
@[simp] theorem State.setCfg_bufSize : (s.setCfg x).bufSize = s.bufSize := rfl
@[simp] theorem State.setCfg_pivot : (s.setCfg x).pivot = s.pivot := rfl
@[simp] theorem State.setCfg_curChan : (s.setCfg x).curChan = s.curChan := rfl
@[simp] theorem State.setCfg_live : (s.setCfg x).live = s.live := rfl
@[simp] theorem State.setCfg_tstate : (s.setCfg x).tstate = s.tstate := rfl
@[simp] theorem State.setCfg_dlyCnt : (s.setCfg x).dlyCnt = s.dlyCnt := rfl
@[simp] theorem State.setCfg_start : (s.setCfg x).start = s.start := rfl
@[simp] theorem State.setCfg_supCnt : (s.setCfg x).supCnt = s.supCnt := rfl
@[simp] theorem State.setCfg_skipCnt : (s.setCfg x).skipCnt = s.skipCnt := rfl
@[simp] theorem State.setCfg_astate : (s.setCfg x).astate = s.astate := rfl
@[simp] theorem State.setCfg_susp : (s.setCfg x).susp = s.susp := rfl
@[simp] theorem State.setCfg_liveAvail : (s.setCfg x).liveAvail = s.liveAvail := rfl
@[simp] theorem State.setCfg_ill : (s.setCfg x).ill = s.ill := rfl
@[simp] theorem State.setCfg_rdata : (s.setCfg x).rdata = s.rdata := rfl
@[simp] theorem State.setCfg_inputs : (s.setCfg x).inputs = s.inputs := rfl
@[simp] theorem State.setCfg_arbSeq : (s.setCfg x).arbSeq = s.arbSeq := rfl

end

section
variable (x : Memory)

@[simp] theorem State.setBuf_staged : (s.setBuf x).staged = s.staged := rfl
@[simp] theorem State.setBuf_cfg : (s.setBuf x).cfg = s.cfg := rfl
@[simp] theorem State.setBuf_buf : (s.setBuf x).buf = x := rfl
@[simp] theorem State.setBuf_bufSize : (s.setBuf x).bufSize = s.bufSize := rfl
@[simp] theorem State.setBuf_pivot : (s.setBuf x).pivot = s.pivot := rfl
@[simp] theorem State.setBuf_curChan : (s.setBuf x).curChan = s.curChan := rfl
@[simp] theorem State.setBuf_live : (s.setBuf x).live = s.live := rfl
@[simp] theorem State.setBuf_tstate : (s.setBuf x).tstate = s.tstate := rfl
@[simp] theorem State.setBuf_dlyCnt : (s.setBuf x).dlyCnt = s.dlyCnt := rfl
@[simp] theorem State.setBuf_start : (s.setBuf x).start = s.start := rfl
@[simp] theorem State.setBuf_supCnt : (s.setBuf x).supCnt = s.supCnt := rfl
@[simp] theorem State.setBuf_skipCnt : (s.setBuf x).skipCnt = s.skipCnt := rfl
@[simp] theorem State.setBuf_astate : (s.setBuf x).astate = s.astate := rfl
@[simp] theorem State.setBuf_susp : (s.setBuf x).susp = s.susp := rfl
@[simp] theorem State.setBuf_liveAvail : (s.setBuf x).liveAvail = s.liveAvail := rfl
@[simp] theorem State.setBuf_ill : (s.setBuf x).ill = s.ill := rfl
@[simp] theorem State.setBuf_rdata : (s.setBuf x).rdata = s.rdata := rfl
@[simp] theorem State.setBuf_inputs : (s.setBuf x).inputs = s.inputs := rfl
@[simp] theorem State.setBuf_arbSeq : (s.setBuf x).arbSeq = s.arbSeq := rfl

end

section
variable (x : BitVec 11)

@[simp] theorem State.setBufSize_staged : (s.setBufSize x).staged = s.staged := rfl
@[simp] theorem State.setBufSize_cfg : (s.setBufSize x).cfg = s.cfg := rfl
@[simp] theorem State.setBufSize_buf : (s.setBufSize x).buf = s.buf := rfl
@[simp] theorem State.setBufSize_bufSize : (s.setBufSize x).bufSize = x := rfl
@[simp] theorem State.setBufSize_pivot : (s.setBufSize x).pivot = s.pivot := rfl
@[simp] theorem State.setBufSize_curChan : (s.setBufSize x).curChan = s.curChan := rfl
@[simp] theorem State.setBufSize_live : (s.setBufSize x).live = s.live := rfl
@[simp] theorem State.setBufSize_tstate : (s.setBufSize x).tstate = s.tstate := rfl
@[simp] theorem State.setBufSize_dlyCnt : (s.setBufSize x).dlyCnt = s.dlyCnt := rfl
@[simp] theorem State.setBufSize_start : (s.setBufSize x).start = s.start := rfl
@[simp] theorem State.setBufSize_supCnt : (s.setBufSize x).supCnt = s.supCnt := rfl
@[simp] theorem State.setBufSize_skipCnt : (s.setBufSize x).skipCnt = s.skipCnt := rfl
@[simp] theorem State.setBufSize_astate : (s.setBufSize x).astate = s.astate := rfl
@[simp] theorem State.setBufSize_susp : (s.setBufSize x).susp = s.susp := rfl
@[simp] theorem State.setBufSize_liveAvail : (s.setBufSize x).liveAvail = s.liveAvail := rfl
@[simp] theorem State.setBufSize_ill : (s.setBufSize x).ill = s.ill := rfl
@[simp] theorem State.setBufSize_rdata : (s.setBufSize x).rdata = s.rdata := rfl
@[simp] theorem State.setBufSize_inputs : (s.setBufSize x).inputs = s.inputs := rfl
@[simp] theorem State.setBufSize_arbSeq : (s.setBufSize x).arbSeq = s.arbSeq := rfl

end

section
variable (x : BitVec 11)

@[simp] theorem State.setPivot_staged : (s.setPivot x).staged = s.staged := rfl
@[simp] theorem State.setPivot_cfg : (s.setPivot x).cfg = s.cfg := rfl
@[simp] theorem State.setPivot_buf : (s.setPivot x).buf = s.buf := rfl
@[simp] theorem State.setPivot_bufSize : (s.setPivot x).bufSize = s.bufSize := rfl
@[simp] theorem State.setPivot_pivot : (s.setPivot x).pivot = x := rfl
@[simp] theorem State.setPivot_curChan : (s.setPivot x).curChan = s.curChan := rfl
@[simp] theorem State.setPivot_live : (s.setPivot x).live = s.live := rfl
@[simp] theorem State.setPivot_tstate : (s.setPivot x).tstate = s.tstate := rfl
@[simp] theorem State.setPivot_dlyCnt : (s.setPivot x).dlyCnt = s.dlyCnt := rfl
@[simp] theorem State.setPivot_start : (s.setPivot x).start = s.start := rfl
@[simp] theorem State.setPivot_supCnt : (s.setPivot x).supCnt = s.supCnt := rfl
@[simp] theorem State.setPivot_skipCnt : (s.setPivot x).skipCnt = s.skipCnt := rfl
@[simp] theorem State.setPivot_astate : (s.setPivot x).astate = s.astate := rfl
@[simp] theorem State.setPivot_susp : (s.setPivot x).susp = s.susp := rfl
@[simp] theorem State.setPivot_liveAvail : (s.setPivot x).liveAvail = s.liveAvail := rfl
@[simp] theorem State.setPivot_ill : (s.setPivot x).ill = s.ill := rfl
@[simp] theorem State.setPivot_rdata : (s.setPivot x).rdata = s.rdata := rfl
@[simp] theorem State.setPivot_inputs : (s.setPivot x).inputs = s.inputs := rfl
@[simp] theorem State.setPivot_arbSeq : (s.setPivot x).arbSeq = s.arbSeq := rfl

end

section
variable (x : BitVec 3)

@[simp] theorem State.setCurChan_staged : (s.setCurChan x).staged = s.staged := rfl
@[simp] theorem State.setCurChan_cfg : (s.setCurChan x).cfg = s.cfg := rfl
@[simp] theorem State.setCurChan_buf : (s.setCurChan x).buf = s.buf := rfl
@[simp] theorem State.setCurChan_bufSize : (s.setCurChan x).bufSize = s.bufSize := rfl
@[simp] theorem State.setCurChan_pivot : (s.setCurChan x).pivot = s.pivot := rfl
@[simp] theorem State.setCurChan_curChan : (s.setCurChan x).curChan = x := rfl
@[simp] theorem State.setCurChan_live : (s.setCurChan x).live = s.live := rfl
@[simp] theorem State.setCurChan_tstate : (s.setCurChan x).tstate = s.tstate := rfl
@[simp] theorem State.setCurChan_dlyCnt : (s.setCurChan x).dlyCnt = s.dlyCnt := rfl
@[simp] theorem State.setCurChan_start : (s.setCurChan x).start = s.start := rfl
@[simp] theorem State.setCurChan_supCnt : (s.setCurChan x).supCnt = s.supCnt := rfl
@[simp] theorem State.setCurChan_skipCnt : (s.setCurChan x).skipCnt = s.skipCnt := rfl
@[simp] theorem State.setCurChan_astate : (s.setCurChan x).astate = s.astate := rfl
@[simp] theorem State.setCurChan_susp : (s.setCurChan x).susp = s.susp := rfl
@[simp] theorem State.setCurChan_liveAvail : (s.setCurChan x).liveAvail = s.liveAvail := rfl
@[simp] theorem State.setCurChan_ill : (s.setCurChan x).ill = s.ill := rfl
@[simp] theorem State.setCurChan_rdata : (s.setCurChan x).rdata = s.rdata := rfl
@[simp] theorem State.setCurChan_inputs : (s.setCurChan x).inputs = s.inputs := rfl
@[simp] theorem State.setCurChan_arbSeq : (s.setCurChan x).arbSeq = s.arbSeq := rfl

end

section
variable (x : LiveSet)

@[simp] theorem State.setLive_staged : (s.setLive x).staged = s.staged := rfl
@[simp] theorem State.setLive_cfg : (s.setLive x).cfg = s.cfg := rfl
@[simp] theorem State.setLive_buf : (s.setLive x).buf = s.buf := rfl
@[simp] theorem State.setLive_bufSize : (s.setLive x).bufSize = s.bufSize := rfl
@[simp] theorem State.setLive_pivot : (s.setLive x).pivot = s.pivot := rfl
@[simp] theorem State.setLive_curChan : (s.setLive x).curChan = s.curChan := rfl
@[simp] theorem State.setLive_live : (s.setLive x).live = x := rfl
@[simp] theorem State.setLive_tstate : (s.setLive x).tstate = s.tstate := rfl
@[simp] theorem State.setLive_dlyCnt : (s.setLive x).dlyCnt = s.dlyCnt := rfl
@[simp] theorem State.setLive_start : (s.setLive x).start = s.start := rfl
@[simp] theorem State.setLive_supCnt : (s.setLive x).supCnt = s.supCnt := rfl
@[simp] theorem State.setLive_skipCnt : (s.setLive x).skipCnt = s.skipCnt := rfl
@[simp] theorem State.setLive_astate : (s.setLive x).astate = s.astate := rfl
@[simp] theorem State.setLive_susp : (s.setLive x).susp = s.susp := rfl
@[simp] theorem State.setLive_liveAvail : (s.setLive x).liveAvail = s.liveAvail := rfl
@[simp] theorem State.setLive_ill : (s.setLive x).ill = s.ill := rfl
@[simp] theorem State.setLive_rdata : (s.setLive x).rdata = s.rdata := rfl
@[simp] theorem State.setLive_inputs : (s.setLive x).inputs = s.inputs := rfl
@[simp] theorem State.setLive_arbSeq : (s.setLive x).arbSeq = s.arbSeq := rfl

end

section
variable (x : TState)

@[simp] theorem State.setTstate_staged : (s.setTstate x).staged = s.staged := rfl
@[simp] theorem State.setTstate_cfg : (s.setTstate x).cfg = s.cfg := rfl
@[simp] theorem State.setTstate_buf : (s.setTstate x).buf = s.buf := rfl
@[simp] theorem State.setTstate_bufSize : (s.setTstate x).bufSize = s.bufSize := rfl
@[simp] theorem State.setTstate_pivot : (s.setTstate x).pivot = s.pivot := rfl
@[simp] theorem State.setTstate_curChan : (s.setTstate x).curChan = s.curChan := rfl
@[simp] theorem State.setTstate_live : (s.setTstate x).live = s.live := rfl
@[simp] theorem State.setTstate_tstate : (s.setTstate x).tstate = x := rfl
@[simp] theorem State.setTstate_dlyCnt : (s.setTstate x).dlyCnt = s.dlyCnt := rfl
@[simp] theorem State.setTstate_start : (s.setTstate x).start = s.start := rfl
@[simp] theorem State.setTstate_supCnt : (s.setTstate x).supCnt = s.supCnt := rfl
@[simp] theorem State.setTstate_skipCnt : (s.setTstate x).skipCnt = s.skipCnt := rfl
@[simp] theorem State.setTstate_astate : (s.setTstate x).astate = s.astate := rfl
@[simp] theorem State.setTstate_susp : (s.setTstate x).susp = s.susp := rfl
@[simp] theorem State.setTstate_liveAvail : (s.setTstate x).liveAvail = s.liveAvail := rfl
@[simp] theorem State.setTstate_ill : (s.setTstate x).ill = s.ill := rfl
@[simp] theorem State.setTstate_rdata : (s.setTstate x).rdata = s.rdata := rfl
@[simp] theorem State.setTstate_inputs : (s.setTstate x).inputs = s.inputs := rfl
@[simp] theorem State.setTstate_arbSeq : (s.setTstate x).arbSeq = s.arbSeq := rfl

end

section
variable (x : BitVec 11)

@[simp] theorem State.setDlyCnt_staged : (s.setDlyCnt x).staged = s.staged := rfl
@[simp] theorem State.setDlyCnt_cfg : (s.setDlyCnt x).cfg = s.cfg := rfl
@[simp] theorem State.setDlyCnt_buf : (s.setDlyCnt x).buf = s.buf := rfl
@[simp] theorem State.setDlyCnt_bufSize : (s.setDlyCnt x).bufSize = s.bufSize := rfl
@[simp] theorem State.setDlyCnt_pivot : (s.setDlyCnt x).pivot = s.pivot := rfl
@[simp] theorem State.setDlyCnt_curChan : (s.setDlyCnt x).curChan = s.curChan := rfl
@[simp] theorem State.setDlyCnt_live : (s.setDlyCnt x).live = s.live := rfl
@[simp] theorem State.setDlyCnt_tstate : (s.setDlyCnt x).tstate = s.tstate := rfl
@[simp] theorem State.setDlyCnt_dlyCnt : (s.setDlyCnt x).dlyCnt = x := rfl
@[simp] theorem State.setDlyCnt_start : (s.setDlyCnt x).start = s.start := rfl
@[simp] theorem State.setDlyCnt_supCnt : (s.setDlyCnt x).supCnt = s.supCnt := rfl
@[simp] theorem State.setDlyCnt_skipCnt : (s.setDlyCnt x).skipCnt = s.skipCnt := rfl
@[simp] theorem State.setDlyCnt_astate : (s.setDlyCnt x).astate = s.astate := rfl
@[simp] theorem State.setDlyCnt_susp : (s.setDlyCnt x).susp = s.susp := rfl
@[simp] theorem State.setDlyCnt_liveAvail : (s.setDlyCnt x).liveAvail = s.liveAvail := rfl
@[simp] theorem State.setDlyCnt_ill : (s.setDlyCnt x).ill = s.ill := rfl
@[simp] theorem State.setDlyCnt_rdata : (s.setDlyCnt x).rdata = s.rdata := rfl
@[simp] theorem State.setDlyCnt_inputs : (s.setDlyCnt x).inputs = s.inputs := rfl
@[simp] theorem State.setDlyCnt_arbSeq : (s.setDlyCnt x).arbSeq = s.arbSeq := rfl

end

section
variable (x : BitVec 11)

@[simp] theorem State.setStart_staged : (s.setStart x).staged = s.staged := rfl
@[simp] theorem State.setStart_cfg : (s.setStart x).cfg = s.cfg := rfl
@[simp] theorem State.setStart_buf : (s.setStart x).buf = s.buf := rfl
@[simp] theorem State.setStart_bufSize : (s.setStart x).bufSize = s.bufSize := rfl
@[simp] theorem State.setStart_pivot : (s.setStart x).pivot = s.pivot := rfl
@[simp] theorem State.setStart_curChan : (s.setStart x).curChan = s.curChan := rfl
@[simp] theorem State.setStart_live : (s.setStart x).live = s.live := rfl
@[simp] theorem State.setStart_tstate : (s.setStart x).tstate = s.tstate := rfl
@[simp] theorem State.setStart_dlyCnt : (s.setStart x).dlyCnt = s.dlyCnt := rfl
@[simp] theorem State.setStart_start : (s.setStart x).start = x := rfl
@[simp] theorem State.setStart_supCnt : (s.setStart x).supCnt = s.supCnt := rfl
@[simp] theorem State.setStart_skipCnt : (s.setStart x).skipCnt = s.skipCnt := rfl
@[simp] theorem State.setStart_astate : (s.setStart x).astate = s.astate := rfl
@[simp] theorem State.setStart_susp : (s.setStart x).susp = s.susp := rfl
@[simp] theorem State.setStart_liveAvail : (s.setStart x).liveAvail = s.liveAvail := rfl
@[simp] theorem State.setStart_ill : (s.setStart x).ill = s.ill := rfl
@[simp] theorem State.setStart_rdata : (s.setStart x).rdata = s.rdata := rfl
@[simp] theorem State.setStart_inputs : (s.setStart x).inputs = s.inputs := rfl
@[simp] theorem State.setStart_arbSeq : (s.setStart x).arbSeq = s.arbSeq := rfl

end

section
variable (x : BitVec 11)

@[simp] theorem State.setSupCnt_staged : (s.setSupCnt x).staged = s.staged := rfl
@[simp] theorem State.setSupCnt_cfg : (s.setSupCnt x).cfg = s.cfg := rfl
@[simp] theorem State.setSupCnt_buf : (s.setSupCnt x).buf = s.buf := rfl
@[simp] theorem State.setSupCnt_bufSize : (s.setSupCnt x).bufSize = s.bufSize := rfl
@[simp] theorem State.setSupCnt_pivot : (s.setSupCnt x).pivot = s.pivot := rfl
@[simp] theorem State.setSupCnt_curChan : (s.setSupCnt x).curChan = s.curChan := rfl
@[simp] theorem State.setSupCnt_live : (s.setSupCnt x).live = s.live := rfl
@[simp] theorem State.setSupCnt_tstate : (s.setSupCnt x).tstate = s.tstate := rfl
@[simp] theorem State.setSupCnt_dlyCnt : (s.setSupCnt x).dlyCnt = s.dlyCnt := rfl
@[simp] theorem State.setSupCnt_start : (s.setSupCnt x).start = s.start := rfl
@[simp] theorem State.setSupCnt_supCnt : (s.setSupCnt x).supCnt = x := rfl
@[simp] theorem State.setSupCnt_skipCnt : (s.setSupCnt x).skipCnt = s.skipCnt := rfl
@[simp] theorem State.setSupCnt_astate : (s.setSupCnt x).astate = s.astate := rfl
@[simp] theorem State.setSupCnt_susp : (s.setSupCnt x).susp = s.susp := rfl
@[simp] theorem State.setSupCnt_liveAvail : (s.setSupCnt x).liveAvail = s.liveAvail := rfl
@[simp] theorem State.setSupCnt_ill : (s.setSupCnt x).ill = s.ill := rfl
@[simp] theorem State.setSupCnt_rdata : (s.setSupCnt x).rdata = s.rdata := rfl
@[simp] theorem State.setSupCnt_inputs : (s.setSupCnt x).inputs = s.inputs := rfl
@[simp] theorem State.setSupCnt_arbSeq : (s.setSupCnt x).arbSeq = s.arbSeq := rfl

end

section
variable (x : BitVec 16)

@[simp] theorem State.setSkipCnt_staged : (s.setSkipCnt x).staged = s.staged := rfl
@[simp] theorem State.setSkipCnt_cfg : (s.setSkipCnt x).cfg = s.cfg := rfl
@[simp] theorem State.setSkipCnt_buf : (s.setSkipCnt x).buf = s.buf := rfl
@[simp] theorem State.setSkipCnt_bufSize : (s.setSkipCnt x).bufSize = s.bufSize := rfl
@[simp] theorem State.setSkipCnt_pivot : (s.setSkipCnt x).pivot = s.pivot := rfl
@[simp] theorem State.setSkipCnt_curChan : (s.setSkipCnt x).curChan = s.curChan := rfl
@[simp] theorem State.setSkipCnt_live : (s.setSkipCnt x).live = s.live := rfl
@[simp] theorem State.setSkipCnt_tstate : (s.setSkipCnt x).tstate = s.tstate := rfl
@[simp] theorem State.setSkipCnt_dlyCnt : (s.setSkipCnt x).dlyCnt = s.dlyCnt := rfl
@[simp] theorem State.setSkipCnt_start : (s.setSkipCnt x).start = s.start := rfl
@[simp] theorem State.setSkipCnt_supCnt : (s.setSkipCnt x).supCnt = s.supCnt := rfl
@[simp] theorem State.setSkipCnt_skipCnt : (s.setSkipCnt x).skipCnt = x := rfl
@[simp] theorem State.setSkipCnt_astate : (s.setSkipCnt x).astate = s.astate := rfl
@[simp] theorem State.setSkipCnt_susp : (s.setSkipCnt x).susp = s.susp := rfl
@[simp] theorem State.setSkipCnt_liveAvail : (s.setSkipCnt x).liveAvail = s.liveAvail := rfl
@[simp] theorem State.setSkipCnt_ill : (s.setSkipCnt x).ill = s.ill := rfl
@[simp] theorem State.setSkipCnt_rdata : (s.setSkipCnt x).rdata = s.rdata := rfl
@[simp] theorem State.setSkipCnt_inputs : (s.setSkipCnt x).inputs = s.inputs := rfl
@[simp] theorem State.setSkipCnt_arbSeq : (s.setSkipCnt x).arbSeq = s.arbSeq := rfl

end

section
variable (x : AState)

@[simp] theorem State.setAstate_staged : (s.setAstate x).staged = s.staged := rfl
@[simp] theorem State.setAstate_cfg : (s.setAstate x).cfg = s.cfg := rfl
@[simp] theorem State.setAstate_buf : (s.setAstate x).buf = s.buf := rfl
@[simp] theorem State.setAstate_bufSize : (s.setAstate x).bufSize = s.bufSize := rfl
@[simp] theorem State.setAstate_pivot : (s.setAstate x).pivot = s.pivot := rfl
@[simp] theorem State.setAstate_curChan : (s.setAstate x).curChan = s.curChan := rfl
@[simp] theorem State.setAstate_live : (s.setAstate x).live = s.live := rfl
@[simp] theorem State.setAstate_tstate : (s.setAstate x).tstate = s.tstate := rfl
@[simp] theorem State.setAstate_dlyCnt : (s.setAstate x).dlyCnt = s.dlyCnt := rfl
@[simp] theorem State.setAstate_start : (s.setAstate x).start = s.start := rfl
@[simp] theorem State.setAstate_supCnt : (s.setAstate x).supCnt = s.supCnt := rfl
@[simp] theorem State.setAstate_skipCnt : (s.setAstate x).skipCnt = s.skipCnt := rfl
@[simp] theorem State.setAstate_astate : (s.setAstate x).astate = x := rfl
@[simp] theorem State.setAstate_susp : (s.setAstate x).susp = s.susp := rfl
@[simp] theorem State.setAstate_liveAvail : (s.setAstate x).liveAvail = s.liveAvail := rfl
@[simp] theorem State.setAstate_ill : (s.setAstate x).ill = s.ill := rfl
@[simp] theorem State.setAstate_rdata : (s.setAstate x).rdata = s.rdata := rfl
@[simp] theorem State.setAstate_inputs : (s.setAstate x).inputs = s.inputs := rfl
@[simp] theorem State.setAstate_arbSeq : (s.setAstate x).arbSeq = s.arbSeq := rfl

end

section
variable (x : Bool)

@[simp] theorem State.setSusp_staged : (s.setSusp x).staged = s.staged := rfl
@[simp] theorem State.setSusp_cfg : (s.setSusp x).cfg = s.cfg := rfl
@[simp] theorem State.setSusp_buf : (s.setSusp x).buf = s.buf := rfl
@[simp] theorem State.setSusp_bufSize : (s.setSusp x).bufSize = s.bufSize := rfl
@[simp] theorem State.setSusp_pivot : (s.setSusp x).pivot = s.pivot := rfl
@[simp] theorem State.setSusp_curChan : (s.setSusp x).curChan = s.curChan := rfl
@[simp] theorem State.setSusp_live : (s.setSusp x).live = s.live := rfl
@[simp] theorem State.setSusp_tstate : (s.setSusp x).tstate = s.tstate := rfl
@[simp] theorem State.setSusp_dlyCnt : (s.setSusp x).dlyCnt = s.dlyCnt := rfl
@[simp] theorem State.setSusp_start : (s.setSusp x).start = s.start := rfl
@[simp] theorem State.setSusp_supCnt : (s.setSusp x).supCnt = s.supCnt := rfl
@[simp] theorem State.setSusp_skipCnt : (s.setSusp x).skipCnt = s.skipCnt := rfl
@[simp] theorem State.setSusp_astate : (s.setSusp x).astate = s.astate := rfl
@[simp] theorem State.setSusp_susp : (s.setSusp x).susp = x := rfl
@[simp] theorem State.setSusp_liveAvail : (s.setSusp x).liveAvail = s.liveAvail := rfl
@[simp] theorem State.setSusp_ill : (s.setSusp x).ill = s.ill := rfl
@[simp] theorem State.setSusp_rdata : (s.setSusp x).rdata = s.rdata := rfl
@[simp] theorem State.setSusp_inputs : (s.setSusp x).inputs = s.inputs := rfl
@[simp] theorem State.setSusp_arbSeq : (s.setSusp x).arbSeq = s.arbSeq := rfl

end

section
variable (x : Bool)

@[simp] theorem State.setLiveAvail_staged : (s.setLiveAvail x).staged = s.staged := rfl
@[simp] theorem State.setLiveAvail_cfg : (s.setLiveAvail x).cfg = s.cfg := rfl
@[simp] theorem State.setLiveAvail_buf : (s.setLiveAvail x).buf = s.buf := rfl
@[simp] theorem State.setLiveAvail_bufSize : (s.setLiveAvail x).bufSize = s.bufSize := rfl
@[simp] theorem State.setLiveAvail_pivot : (s.setLiveAvail x).pivot = s.pivot := rfl
@[simp] theorem State.setLiveAvail_curChan : (s.setLiveAvail x).curChan = s.curChan := rfl
@[simp] theorem State.setLiveAvail_live : (s.setLiveAvail x).live = s.live := rfl
@[simp] theorem State.setLiveAvail_tstate : (s.setLiveAvail x).tstate = s.tstate := rfl
@[simp] theorem State.setLiveAvail_dlyCnt : (s.setLiveAvail x).dlyCnt = s.dlyCnt := rfl
@[simp] theorem State.setLiveAvail_start : (s.setLiveAvail x).start = s.start := rfl
@[simp] theorem State.setLiveAvail_supCnt : (s.setLiveAvail x).supCnt = s.supCnt := rfl
@[simp] theorem State.setLiveAvail_skipCnt : (s.setLiveAvail x).skipCnt = s.skipCnt := rfl
@[simp] theorem State.setLiveAvail_astate : (s.setLiveAvail x).astate = s.astate := rfl
@[simp] theorem State.setLiveAvail_susp : (s.setLiveAvail x).susp = s.susp := rfl
@[simp] theorem State.setLiveAvail_liveAvail : (s.setLiveAvail x).liveAvail = x := rfl
@[simp] theorem State.setLiveAvail_ill : (s.setLiveAvail x).ill = s.ill := rfl
@[simp] theorem State.setLiveAvail_rdata : (s.setLiveAvail x).rdata = s.rdata := rfl
@[simp] theorem State.setLiveAvail_inputs : (s.setLiveAvail x).inputs = s.inputs := rfl
@[simp] theorem State.setLiveAvail_arbSeq : (s.setLiveAvail x).arbSeq = s.arbSeq := rfl

end

section
variable (x : Bool)

@[simp] theorem State.setIll_staged : (s.setIll x).staged = s.staged := rfl
@[simp] theorem State.setIll_cfg : (s.setIll x).cfg = s.cfg := rfl
@[simp] theorem State.setIll_buf : (s.setIll x).buf = s.buf := rfl
@[simp] theorem State.setIll_bufSize : (s.setIll x).bufSize = s.bufSize := rfl
@[simp] theorem State.setIll_pivot : (s.setIll x).pivot = s.pivot := rfl
@[simp] theorem State.setIll_curChan : (s.setIll x).curChan = s.curChan := rfl
@[simp] theorem State.setIll_live : (s.setIll x).live = s.live := rfl
@[simp] theorem State.setIll_tstate : (s.setIll x).tstate = s.tstate := rfl
@[simp] theorem State.setIll_dlyCnt : (s.setIll x).dlyCnt = s.dlyCnt := rfl
@[simp] theorem State.setIll_start : (s.setIll x).start = s.start := rfl
@[simp] theorem State.setIll_supCnt : (s.setIll x).supCnt = s.supCnt := rfl
@[simp] theorem State.setIll_skipCnt : (s.setIll x).skipCnt = s.skipCnt := rfl
@[simp] theorem State.setIll_astate : (s.setIll x).astate = s.astate := rfl
@[simp] theorem State.setIll_susp : (s.setIll x).susp = s.susp := rfl
@[simp] theorem State.setIll_liveAvail : (s.setIll x).liveAvail = s.liveAvail := rfl
@[simp] theorem State.setIll_ill : (s.setIll x).ill = x := rfl
@[simp] theorem State.setIll_rdata : (s.setIll x).rdata = s.rdata := rfl
@[simp] theorem State.setIll_inputs : (s.setIll x).inputs = s.inputs := rfl
@[simp] theorem State.setIll_arbSeq : (s.setIll x).arbSeq = s.arbSeq := rfl

end

section
variable (x : Word)

@[simp] theorem State.setRdata_staged : (s.setRdata x).staged = s.staged := rfl
@[simp] theorem State.setRdata_cfg : (s.setRdata x).cfg = s.cfg := rfl
@[simp] theorem State.setRdata_buf : (s.setRdata x).buf = s.buf := rfl
@[simp] theorem State.setRdata_bufSize : (s.setRdata x).bufSize = s.bufSize := rfl
@[simp] theorem State.setRdata_pivot : (s.setRdata x).pivot = s.pivot := rfl
@[simp] theorem State.setRdata_curChan : (s.setRdata x).curChan = s.curChan := rfl
@[simp] theorem State.setRdata_live : (s.setRdata x).live = s.live := rfl
@[simp] theorem State.setRdata_tstate : (s.setRdata x).tstate = s.tstate := rfl
@[simp] theorem State.setRdata_dlyCnt : (s.setRdata x).dlyCnt = s.dlyCnt := rfl
@[simp] theorem State.setRdata_start : (s.setRdata x).start = s.start := rfl
@[simp] theorem State.setRdata_supCnt : (s.setRdata x).supCnt = s.supCnt := rfl
@[simp] theorem State.setRdata_skipCnt : (s.setRdata x).skipCnt = s.skipCnt := rfl
@[simp] theorem State.setRdata_astate : (s.setRdata x).astate = s.astate := rfl
@[simp] theorem State.setRdata_susp : (s.setRdata x).susp = s.susp := rfl
@[simp] theorem State.setRdata_liveAvail : (s.setRdata x).liveAvail = s.liveAvail := rfl
@[simp] theorem State.setRdata_ill : (s.setRdata x).ill = s.ill := rfl
@[simp] theorem State.setRdata_rdata : (s.setRdata x).rdata = x := rfl
@[simp] theorem State.setRdata_inputs : (s.setRdata x).inputs = s.inputs := rfl
@[simp] theorem State.setRdata_arbSeq : (s.setRdata x).arbSeq = s.arbSeq := rfl

end

section
variable (x : List Instant)

@[simp] theorem State.setInputs_staged : (s.setInputs x).staged = s.staged := rfl
@[simp] theorem State.setInputs_cfg : (s.setInputs x).cfg = s.cfg := rfl
@[simp] theorem State.setInputs_buf : (s.setInputs x).buf = s.buf := rfl
@[simp] theorem State.setInputs_bufSize : (s.setInputs x).bufSize = s.bufSize := rfl
@[simp] theorem State.setInputs_pivot : (s.setInputs x).pivot = s.pivot := rfl
@[simp] theorem State.setInputs_curChan : (s.setInputs x).curChan = s.curChan := rfl
@[simp] theorem State.setInputs_live : (s.setInputs x).live = s.live := rfl
@[simp] theorem State.setInputs_tstate : (s.setInputs x).tstate = s.tstate := rfl
@[simp] theorem State.setInputs_dlyCnt : (s.setInputs x).dlyCnt = s.dlyCnt := rfl
@[simp] theorem State.setInputs_start : (s.setInputs x).start = s.start := rfl
@[simp] theorem State.setInputs_supCnt : (s.setInputs x).supCnt = s.supCnt := rfl
@[simp] theorem State.setInputs_skipCnt : (s.setInputs x).skipCnt = s.skipCnt := rfl
@[simp] theorem State.setInputs_astate : (s.setInputs x).astate = s.astate := rfl
@[simp] theorem State.setInputs_susp : (s.setInputs x).susp = s.susp := rfl
@[simp] theorem State.setInputs_liveAvail : (s.setInputs x).liveAvail = s.liveAvail := rfl
@[simp] theorem State.setInputs_ill : (s.setInputs x).ill = s.ill := rfl
@[simp] theorem State.setInputs_rdata : (s.setInputs x).rdata = s.rdata := rfl
@[simp] theorem State.setInputs_inputs : (s.setInputs x).inputs = x := rfl
@[simp] theorem State.setInputs_arbSeq : (s.setInputs x).arbSeq = s.arbSeq := rfl

end

section
variable (x : Nat)

@[simp] theorem State.setArbSeq_staged : (s.setArbSeq x).staged = s.staged := rfl
@[simp] theorem State.setArbSeq_cfg : (s.setArbSeq x).cfg = s.cfg := rfl
@[simp] theorem State.setArbSeq_buf : (s.setArbSeq x).buf = s.buf := rfl
@[simp] theorem State.setArbSeq_bufSize : (s.setArbSeq x).bufSize = s.bufSize := rfl
@[simp] theorem State.setArbSeq_pivot : (s.setArbSeq x).pivot = s.pivot := rfl
@[simp] theorem State.setArbSeq_curChan : (s.setArbSeq x).curChan = s.curChan := rfl
@[simp] theorem State.setArbSeq_live : (s.setArbSeq x).live = s.live := rfl
@[simp] theorem State.setArbSeq_tstate : (s.setArbSeq x).tstate = s.tstate := rfl
@[simp] theorem State.setArbSeq_dlyCnt : (s.setArbSeq x).dlyCnt = s.dlyCnt := rfl
@[simp] theorem State.setArbSeq_start : (s.setArbSeq x).start = s.start := rfl
@[simp] theorem State.setArbSeq_supCnt : (s.setArbSeq x).supCnt = s.supCnt := rfl
@[simp] theorem State.setArbSeq_skipCnt : (s.setArbSeq x).skipCnt = s.skipCnt := rfl
@[simp] theorem State.setArbSeq_astate : (s.setArbSeq x).astate = s.astate := rfl
@[simp] theorem State.setArbSeq_susp : (s.setArbSeq x).susp = s.susp := rfl
@[simp] theorem State.setArbSeq_liveAvail : (s.setArbSeq x).liveAvail = s.liveAvail := rfl
@[simp] theorem State.setArbSeq_ill : (s.setArbSeq x).ill = s.ill := rfl
@[simp] theorem State.setArbSeq_rdata : (s.setArbSeq x).rdata = s.rdata := rfl
@[simp] theorem State.setArbSeq_inputs : (s.setArbSeq x).inputs = s.inputs := rfl
@[simp] theorem State.setArbSeq_arbSeq : (s.setArbSeq x).arbSeq = x := rfl

end

end Sys2Proof.Machine
end

