-- ==== Sys2Proof/Laws/Ops.lean ====
section
/-! SUPPORT. What each shared operation can do, said once: the value of every field after it. Later proofs cite these
lemmas and unfold no operation. -/

namespace Sys2Proof.Machine

open Sys2Proof

/-- Reading a live register after writing one (R165). -/
theorem LiveSet.get_set (l : LiveSet) {c : Nat} (d : Nat) (v : Sample) (hc : c < 6) :
    (l.set c v).get d = if d = c then v else l.get d := by
  have hc' : c = 0 ∨ c = 1 ∨ c = 2 ∨ c = 3 ∨ c = 4 ∨ c = 5 := by omega
  rcases hc' with rfl | rfl | rfl | rfl | rfl | rfl <;>
    (by_cases hd : d < 6
     · have hd' : d = 0 ∨ d = 1 ∨ d = 2 ∨ d = 3 ∨ d = 4 ∨ d = 5 := by omega
       rcases hd' with rfl | rfl | rfl | rfl | rfl | rfl <;> rfl
     · have h1 : ∀ m : LiveSet, m.get d = 0 := by
         intro m
         unfold LiveSet.get
         split <;> first | rfl | (exfalso; omega)
       rw [h1, h1, if_neg (by omega)])

/-- Every live register of the zeroed set reads 0 (R116). -/
@[simp] theorem LiveSet.get_zero (c : Nat) : LiveSet.zero.get c = 0 := by
  unfold LiveSet.get
  split <;> rfl

/-- Reading a staged register after writing one (R181). -/
theorem Staged.get_set (r : Staged) (f g : CfgField) (v : Imm24) :
    (r.set f v).get g = if g = f then v else r.get g := by
  cases f <;> cases g <;> rfl

/-- The staged form of a configuration, field by field, zero-extended (R184). -/
theorem Active.toStaged_word (c : Active) (f : CfgField) : (c.toStaged.get f).setWidth 32 = c.word f := by
  cases f <;> simp only [Active.toStaged, Staged.get, Active.word] <;>
    exact BitVec.eq_of_toNat_eq (by simp only [BitVec.toNat_setWidth]; omega)

/-- The clamp of the all-zero request is the reference DEFAULTS (R262). -/
@[simp] theorem clampRequest_default : clampRequest defaultRequest = Active.reset := by decide

/-- The reference DEFAULTS as staged registers (R43). -/
@[simp] theorem toStaged_default : Active.reset.toStaged = Staged.reset := by decide

section Unconditional

variable (s : State) (v : Sample) (new : Active)

/-! `write(value, pivot)` (R112). -/

@[simp] theorem State.writeSlot_staged : (s.writeSlot v).staged = s.staged := rfl
@[simp] theorem State.writeSlot_cfg : (s.writeSlot v).cfg = s.cfg := rfl
@[simp] theorem State.writeSlot_buf : (s.writeSlot v).buf = s.buf.write s.pivot.toNat v := rfl
@[simp] theorem State.writeSlot_bufSize : (s.writeSlot v).bufSize = s.bufSize := rfl
@[simp] theorem State.writeSlot_pivot : (s.writeSlot v).pivot = s.pivot := rfl
@[simp] theorem State.writeSlot_curChan : (s.writeSlot v).curChan = s.curChan := rfl
@[simp] theorem State.writeSlot_live : (s.writeSlot v).live = s.live := rfl
@[simp] theorem State.writeSlot_tstate : (s.writeSlot v).tstate = s.tstate := rfl
@[simp] theorem State.writeSlot_dlyCnt : (s.writeSlot v).dlyCnt = s.dlyCnt := rfl
@[simp] theorem State.writeSlot_start : (s.writeSlot v).start = s.start := rfl
@[simp] theorem State.writeSlot_supCnt : (s.writeSlot v).supCnt = s.supCnt := rfl
@[simp] theorem State.writeSlot_skipCnt : (s.writeSlot v).skipCnt = s.skipCnt := rfl
@[simp] theorem State.writeSlot_astate : (s.writeSlot v).astate = s.astate := rfl
@[simp] theorem State.writeSlot_susp : (s.writeSlot v).susp = s.susp := rfl
@[simp] theorem State.writeSlot_liveAvail : (s.writeSlot v).liveAvail = s.liveAvail := rfl
@[simp] theorem State.writeSlot_ill : (s.writeSlot v).ill = s.ill := rfl
@[simp] theorem State.writeSlot_rdata : (s.writeSlot v).rdata = s.rdata := rfl
@[simp] theorem State.writeSlot_inputs : (s.writeSlot v).inputs = s.inputs := rfl
@[simp] theorem State.writeSlot_arbSeq : (s.writeSlot v).arbSeq = s.arbSeq := rfl

/-! The store of an accepted sample (R165). -/

@[simp] theorem State.store_staged : (s.store v).staged = s.staged := rfl
@[simp] theorem State.store_cfg : (s.store v).cfg = s.cfg := rfl
@[simp] theorem State.store_buf : (s.store v).buf = s.buf.write s.pivot.toNat v := rfl
@[simp] theorem State.store_bufSize : (s.store v).bufSize = s.bufSize := rfl
@[simp] theorem State.store_pivot : (s.store v).pivot = s.pivot := rfl
@[simp] theorem State.store_curChan : (s.store v).curChan = s.curChan := rfl
@[simp] theorem State.store_live : (s.store v).live = s.live.set s.curChan.toNat v := rfl
@[simp] theorem State.store_tstate : (s.store v).tstate = s.tstate := rfl
@[simp] theorem State.store_dlyCnt : (s.store v).dlyCnt = s.dlyCnt := rfl
@[simp] theorem State.store_start : (s.store v).start = s.start := rfl
@[simp] theorem State.store_supCnt : (s.store v).supCnt = s.supCnt := rfl
@[simp] theorem State.store_skipCnt : (s.store v).skipCnt = s.skipCnt := rfl
@[simp] theorem State.store_astate : (s.store v).astate = s.astate := rfl
@[simp] theorem State.store_susp : (s.store v).susp = s.susp := rfl
@[simp] theorem State.store_liveAvail : (s.store v).liveAvail = s.liveAvail := rfl
@[simp] theorem State.store_ill : (s.store v).ill = s.ill := rfl
@[simp] theorem State.store_rdata : (s.store v).rdata = s.rdata := rfl
@[simp] theorem State.store_inputs : (s.store v).inputs = s.inputs := rfl
@[simp] theorem State.store_arbSeq : (s.store v).arbSeq = s.arbSeq := rfl

/-! `NextChan` (R101). -/

@[simp] theorem State.nextChan_staged : s.nextChan.staged = s.staged := rfl
@[simp] theorem State.nextChan_cfg : s.nextChan.cfg = s.cfg := rfl
@[simp] theorem State.nextChan_buf : s.nextChan.buf = s.buf := rfl
@[simp] theorem State.nextChan_bufSize : s.nextChan.bufSize = s.bufSize := rfl
@[simp] theorem State.nextChan_pivot : s.nextChan.pivot = s.pivot := rfl
@[simp] theorem State.nextChan_curChan : s.nextChan.curChan = BitVec.ofNat 3 ((s.curChan.toNat + 1) % s.cfg.nCh.toNat) := rfl
@[simp] theorem State.nextChan_live : s.nextChan.live = s.live := rfl
@[simp] theorem State.nextChan_tstate : s.nextChan.tstate = s.tstate := rfl
@[simp] theorem State.nextChan_dlyCnt : s.nextChan.dlyCnt = s.dlyCnt := rfl
@[simp] theorem State.nextChan_start : s.nextChan.start = s.start := rfl
@[simp] theorem State.nextChan_supCnt : s.nextChan.supCnt = s.supCnt := rfl
@[simp] theorem State.nextChan_skipCnt : s.nextChan.skipCnt = s.skipCnt := rfl
@[simp] theorem State.nextChan_astate : s.nextChan.astate = s.astate := rfl
@[simp] theorem State.nextChan_susp : s.nextChan.susp = s.susp := rfl
@[simp] theorem State.nextChan_liveAvail : s.nextChan.liveAvail = s.liveAvail := rfl
@[simp] theorem State.nextChan_ill : s.nextChan.ill = s.ill := rfl
@[simp] theorem State.nextChan_rdata : s.nextChan.rdata = s.rdata := rfl
@[simp] theorem State.nextChan_inputs : s.nextChan.inputs = s.inputs := rfl
@[simp] theorem State.nextChan_arbSeq : s.nextChan.arbSeq = s.arbSeq := rfl

/-! The pivot advance (R113). -/

@[simp] theorem State.advancePivot_staged : s.advancePivot.staged = s.staged := rfl
@[simp] theorem State.advancePivot_cfg : s.advancePivot.cfg = s.cfg := rfl
@[simp] theorem State.advancePivot_buf : s.advancePivot.buf = s.buf := rfl
@[simp] theorem State.advancePivot_bufSize : s.advancePivot.bufSize = s.bufSize := rfl
@[simp] theorem State.advancePivot_pivot : s.advancePivot.pivot = BitVec.ofNat 11 ((s.pivot.toNat + 1) % s.bufSize.toNat) := rfl
@[simp] theorem State.advancePivot_curChan : s.advancePivot.curChan = s.curChan := rfl
@[simp] theorem State.advancePivot_live : s.advancePivot.live = s.live := rfl
@[simp] theorem State.advancePivot_tstate : s.advancePivot.tstate = s.tstate := rfl
@[simp] theorem State.advancePivot_dlyCnt : s.advancePivot.dlyCnt = s.dlyCnt := rfl
@[simp] theorem State.advancePivot_start : s.advancePivot.start = s.start := rfl
@[simp] theorem State.advancePivot_supCnt : s.advancePivot.supCnt = s.supCnt := rfl
@[simp] theorem State.advancePivot_skipCnt : s.advancePivot.skipCnt = s.skipCnt := rfl
@[simp] theorem State.advancePivot_astate : s.advancePivot.astate = s.astate := rfl
@[simp] theorem State.advancePivot_susp : s.advancePivot.susp = s.susp := rfl
@[simp] theorem State.advancePivot_liveAvail : s.advancePivot.liveAvail = s.liveAvail := rfl
@[simp] theorem State.advancePivot_ill : s.advancePivot.ill = s.ill := rfl
@[simp] theorem State.advancePivot_rdata : s.advancePivot.rdata = s.rdata := rfl
@[simp] theorem State.advancePivot_inputs : s.advancePivot.inputs = s.inputs := rfl
@[simp] theorem State.advancePivot_arbSeq : s.advancePivot.arbSeq = s.arbSeq := rfl

/-! `BufReset()` (R116). -/

@[simp] theorem State.bufReset_staged : s.bufReset.staged = s.staged := by simp [State.bufReset]
@[simp] theorem State.bufReset_cfg : s.bufReset.cfg = s.cfg := by simp [State.bufReset]
@[simp] theorem State.bufReset_buf : s.bufReset.buf = Memory.zero := by simp [State.bufReset]
@[simp] theorem State.bufReset_bufSize : s.bufReset.bufSize = BitVec.ofNat 11 (s.cfg.nCh.toNat * s.cfg.nS.toNat) := by simp [State.bufReset]
@[simp] theorem State.bufReset_pivot : s.bufReset.pivot = 0 := by simp [State.bufReset]
@[simp] theorem State.bufReset_curChan : s.bufReset.curChan = 0 := by simp [State.bufReset]
@[simp] theorem State.bufReset_live : s.bufReset.live = LiveSet.zero := by simp [State.bufReset]
@[simp] theorem State.bufReset_tstate : s.bufReset.tstate = s.tstate := by simp [State.bufReset]
@[simp] theorem State.bufReset_dlyCnt : s.bufReset.dlyCnt = s.dlyCnt := by simp [State.bufReset]
@[simp] theorem State.bufReset_start : s.bufReset.start = s.start := by simp [State.bufReset]
@[simp] theorem State.bufReset_supCnt : s.bufReset.supCnt = s.supCnt := by simp [State.bufReset]
@[simp] theorem State.bufReset_skipCnt : s.bufReset.skipCnt = s.skipCnt := by simp [State.bufReset]
@[simp] theorem State.bufReset_astate : s.bufReset.astate = s.astate := by simp [State.bufReset]
@[simp] theorem State.bufReset_susp : s.bufReset.susp = s.susp := by simp [State.bufReset]
@[simp] theorem State.bufReset_liveAvail : s.bufReset.liveAvail = false := by simp [State.bufReset]
@[simp] theorem State.bufReset_ill : s.bufReset.ill = s.ill := by simp [State.bufReset]
@[simp] theorem State.bufReset_rdata : s.bufReset.rdata = s.rdata := by simp [State.bufReset]
@[simp] theorem State.bufReset_inputs : s.bufReset.inputs = s.inputs := by simp [State.bufReset]
@[simp] theorem State.bufReset_arbSeq : s.bufReset.arbSeq = s.arbSeq := by simp [State.bufReset]

/-! `TrigReset()` (R131). -/

@[simp] theorem State.trigReset_staged : s.trigReset.staged = s.staged := rfl
@[simp] theorem State.trigReset_cfg : s.trigReset.cfg = s.cfg := rfl
@[simp] theorem State.trigReset_buf : s.trigReset.buf = s.buf := rfl
@[simp] theorem State.trigReset_bufSize : s.trigReset.bufSize = s.bufSize := rfl
@[simp] theorem State.trigReset_pivot : s.trigReset.pivot = s.pivot := rfl
@[simp] theorem State.trigReset_curChan : s.trigReset.curChan = s.curChan := rfl
@[simp] theorem State.trigReset_live : s.trigReset.live = s.live := rfl
@[simp] theorem State.trigReset_tstate : s.trigReset.tstate = .idle := rfl
@[simp] theorem State.trigReset_dlyCnt : s.trigReset.dlyCnt = 0 := rfl
@[simp] theorem State.trigReset_start : s.trigReset.start = 0 := rfl
@[simp] theorem State.trigReset_supCnt : s.trigReset.supCnt = 0 := rfl
@[simp] theorem State.trigReset_skipCnt : s.trigReset.skipCnt = s.skipCnt := rfl
@[simp] theorem State.trigReset_astate : s.trigReset.astate = s.astate := rfl
@[simp] theorem State.trigReset_susp : s.trigReset.susp = s.susp := rfl
@[simp] theorem State.trigReset_liveAvail : s.trigReset.liveAvail = s.liveAvail := rfl
@[simp] theorem State.trigReset_ill : s.trigReset.ill = s.ill := rfl
@[simp] theorem State.trigReset_rdata : s.trigReset.rdata = s.rdata := rfl
@[simp] theorem State.trigReset_inputs : s.trigReset.inputs = s.inputs := rfl
@[simp] theorem State.trigReset_arbSeq : s.trigReset.arbSeq = s.arbSeq := rfl

/-! `AcqReset()` (R161). -/

@[simp] theorem State.acqReset_staged : s.acqReset.staged = s.staged := rfl
@[simp] theorem State.acqReset_cfg : s.acqReset.cfg = s.cfg := rfl
@[simp] theorem State.acqReset_buf : s.acqReset.buf = s.buf := rfl
@[simp] theorem State.acqReset_bufSize : s.acqReset.bufSize = s.bufSize := rfl
@[simp] theorem State.acqReset_pivot : s.acqReset.pivot = s.pivot := rfl
@[simp] theorem State.acqReset_curChan : s.acqReset.curChan = s.curChan := rfl
@[simp] theorem State.acqReset_live : s.acqReset.live = s.live := rfl
@[simp] theorem State.acqReset_tstate : s.acqReset.tstate = s.tstate := rfl
@[simp] theorem State.acqReset_dlyCnt : s.acqReset.dlyCnt = s.dlyCnt := rfl
@[simp] theorem State.acqReset_start : s.acqReset.start = s.start := rfl
@[simp] theorem State.acqReset_supCnt : s.acqReset.supCnt = s.supCnt := rfl
@[simp] theorem State.acqReset_skipCnt : s.acqReset.skipCnt = 0 := rfl
@[simp] theorem State.acqReset_astate : s.acqReset.astate = .run := rfl
@[simp] theorem State.acqReset_susp : s.acqReset.susp = s.susp := rfl
@[simp] theorem State.acqReset_liveAvail : s.acqReset.liveAvail = s.liveAvail := rfl
@[simp] theorem State.acqReset_ill : s.acqReset.ill = s.ill := rfl
@[simp] theorem State.acqReset_rdata : s.acqReset.rdata = s.rdata := rfl
@[simp] theorem State.acqReset_inputs : s.acqReset.inputs = s.inputs := rfl
@[simp] theorem State.acqReset_arbSeq : s.acqReset.arbSeq = s.arbSeq := rfl

/-! The three resets of ACKCAP and RESET (R172, R221). -/

@[simp] theorem State.captureReset_staged : s.captureReset.staged = s.staged := by simp [State.captureReset]
@[simp] theorem State.captureReset_cfg : s.captureReset.cfg = s.cfg := by simp [State.captureReset]
@[simp] theorem State.captureReset_buf : s.captureReset.buf = Memory.zero := by simp [State.captureReset]
@[simp] theorem State.captureReset_bufSize : s.captureReset.bufSize = BitVec.ofNat 11 (s.cfg.nCh.toNat * s.cfg.nS.toNat) := by simp [State.captureReset]
@[simp] theorem State.captureReset_pivot : s.captureReset.pivot = 0 := by simp [State.captureReset]
@[simp] theorem State.captureReset_curChan : s.captureReset.curChan = 0 := by simp [State.captureReset]
@[simp] theorem State.captureReset_live : s.captureReset.live = LiveSet.zero := by simp [State.captureReset]
@[simp] theorem State.captureReset_tstate : s.captureReset.tstate = .idle := by simp [State.captureReset]
@[simp] theorem State.captureReset_dlyCnt : s.captureReset.dlyCnt = 0 := by simp [State.captureReset]
@[simp] theorem State.captureReset_start : s.captureReset.start = 0 := by simp [State.captureReset]
@[simp] theorem State.captureReset_supCnt : s.captureReset.supCnt = 0 := by simp [State.captureReset]
@[simp] theorem State.captureReset_skipCnt : s.captureReset.skipCnt = 0 := by simp [State.captureReset]
@[simp] theorem State.captureReset_astate : s.captureReset.astate = .run := by simp [State.captureReset]
@[simp] theorem State.captureReset_susp : s.captureReset.susp = s.susp := by simp [State.captureReset]
@[simp] theorem State.captureReset_liveAvail : s.captureReset.liveAvail = false := by simp [State.captureReset]
@[simp] theorem State.captureReset_ill : s.captureReset.ill = s.ill := by simp [State.captureReset]
@[simp] theorem State.captureReset_rdata : s.captureReset.rdata = s.rdata := by simp [State.captureReset]
@[simp] theorem State.captureReset_inputs : s.captureReset.inputs = s.inputs := by simp [State.captureReset]
@[simp] theorem State.captureReset_arbSeq : s.captureReset.arbSeq = s.arbSeq := by simp [State.captureReset]

/-! Activation and write-back of a configuration (R182, R184). -/

@[simp] theorem State.activate_staged : (s.activate new).staged = new.toStaged := rfl
@[simp] theorem State.activate_cfg : (s.activate new).cfg = new := rfl
@[simp] theorem State.activate_buf : (s.activate new).buf = s.buf := rfl
@[simp] theorem State.activate_bufSize : (s.activate new).bufSize = s.bufSize := rfl
@[simp] theorem State.activate_pivot : (s.activate new).pivot = s.pivot := rfl
@[simp] theorem State.activate_curChan : (s.activate new).curChan = s.curChan := rfl
@[simp] theorem State.activate_live : (s.activate new).live = s.live := rfl
@[simp] theorem State.activate_tstate : (s.activate new).tstate = s.tstate := rfl
@[simp] theorem State.activate_dlyCnt : (s.activate new).dlyCnt = s.dlyCnt := rfl
@[simp] theorem State.activate_start : (s.activate new).start = s.start := rfl
@[simp] theorem State.activate_supCnt : (s.activate new).supCnt = s.supCnt := rfl
@[simp] theorem State.activate_skipCnt : (s.activate new).skipCnt = s.skipCnt := rfl
@[simp] theorem State.activate_astate : (s.activate new).astate = s.astate := rfl
@[simp] theorem State.activate_susp : (s.activate new).susp = s.susp := rfl
@[simp] theorem State.activate_liveAvail : (s.activate new).liveAvail = s.liveAvail := rfl
@[simp] theorem State.activate_ill : (s.activate new).ill = s.ill := rfl
@[simp] theorem State.activate_rdata : (s.activate new).rdata = s.rdata := rfl
@[simp] theorem State.activate_inputs : (s.activate new).inputs = s.inputs := rfl
@[simp] theorem State.activate_arbSeq : (s.activate new).arbSeq = s.arbSeq := rfl

/-! The record of an ILLEGAL word (R223). -/

@[simp] theorem State.recordIllegal_staged : s.recordIllegal.staged = s.staged := rfl
@[simp] theorem State.recordIllegal_cfg : s.recordIllegal.cfg = s.cfg := rfl
@[simp] theorem State.recordIllegal_buf : s.recordIllegal.buf = s.buf := rfl
@[simp] theorem State.recordIllegal_bufSize : s.recordIllegal.bufSize = s.bufSize := rfl
@[simp] theorem State.recordIllegal_pivot : s.recordIllegal.pivot = s.pivot := rfl
@[simp] theorem State.recordIllegal_curChan : s.recordIllegal.curChan = s.curChan := rfl
@[simp] theorem State.recordIllegal_live : s.recordIllegal.live = s.live := rfl
@[simp] theorem State.recordIllegal_tstate : s.recordIllegal.tstate = s.tstate := rfl
@[simp] theorem State.recordIllegal_dlyCnt : s.recordIllegal.dlyCnt = s.dlyCnt := rfl
@[simp] theorem State.recordIllegal_start : s.recordIllegal.start = s.start := rfl
@[simp] theorem State.recordIllegal_supCnt : s.recordIllegal.supCnt = s.supCnt := rfl
@[simp] theorem State.recordIllegal_skipCnt : s.recordIllegal.skipCnt = s.skipCnt := rfl
@[simp] theorem State.recordIllegal_astate : s.recordIllegal.astate = s.astate := rfl
@[simp] theorem State.recordIllegal_susp : s.recordIllegal.susp = s.susp := rfl
@[simp] theorem State.recordIllegal_liveAvail : s.recordIllegal.liveAvail = s.liveAvail := rfl
@[simp] theorem State.recordIllegal_ill : s.recordIllegal.ill = true := rfl
@[simp] theorem State.recordIllegal_rdata : s.recordIllegal.rdata = s.rdata := rfl
@[simp] theorem State.recordIllegal_inputs : s.recordIllegal.inputs = s.inputs := rfl
@[simp] theorem State.recordIllegal_arbSeq : s.recordIllegal.arbSeq = s.arbSeq := rfl

/-! RESET (R221): the table of R43. -/

@[simp] theorem State.resetEngine_staged : s.resetEngine.staged = Staged.reset := by
  simp [State.resetEngine]
@[simp] theorem State.resetEngine_cfg : s.resetEngine.cfg = Active.reset := by
  simp [State.resetEngine]
@[simp] theorem State.resetEngine_buf : s.resetEngine.buf = Memory.zero := by
  simp [State.resetEngine]
@[simp] theorem State.resetEngine_bufSize : s.resetEngine.bufSize = 2 := by
  simp [State.resetEngine]
  decide
@[simp] theorem State.resetEngine_pivot : s.resetEngine.pivot = 0 := by
  simp [State.resetEngine]
@[simp] theorem State.resetEngine_curChan : s.resetEngine.curChan = 0 := by
  simp [State.resetEngine]
@[simp] theorem State.resetEngine_live : s.resetEngine.live = LiveSet.zero := by
  simp [State.resetEngine]
@[simp] theorem State.resetEngine_tstate : s.resetEngine.tstate = .idle := by
  simp [State.resetEngine]
@[simp] theorem State.resetEngine_dlyCnt : s.resetEngine.dlyCnt = 0 := by
  simp [State.resetEngine]
@[simp] theorem State.resetEngine_start : s.resetEngine.start = 0 := by
  simp [State.resetEngine]
@[simp] theorem State.resetEngine_supCnt : s.resetEngine.supCnt = 0 := by
  simp [State.resetEngine]
@[simp] theorem State.resetEngine_skipCnt : s.resetEngine.skipCnt = 0 := by
  simp [State.resetEngine]
@[simp] theorem State.resetEngine_astate : s.resetEngine.astate = .run := by
  simp [State.resetEngine]
@[simp] theorem State.resetEngine_susp : s.resetEngine.susp = true := by
  simp [State.resetEngine]
@[simp] theorem State.resetEngine_liveAvail : s.resetEngine.liveAvail = false := by
  simp [State.resetEngine]
@[simp] theorem State.resetEngine_ill : s.resetEngine.ill = false := by
  simp [State.resetEngine]
@[simp] theorem State.resetEngine_rdata : s.resetEngine.rdata = s.rdata := by
  simp [State.resetEngine]
@[simp] theorem State.resetEngine_inputs : s.resetEngine.inputs = s.inputs := by
  simp [State.resetEngine]
@[simp] theorem State.resetEngine_arbSeq : s.resetEngine.arbSeq = s.arbSeq := by
  simp [State.resetEngine]

end Unconditional

section Conditional

variable (s : State) (v : Sample) (cyc : Bool)

/-! What `markLive` leaves (R166). -/

@[simp] theorem State.markLive_staged : (s.markLive cyc).staged = s.staged := by
  unfold State.markLive; split <;> rfl
@[simp] theorem State.markLive_cfg : (s.markLive cyc).cfg = s.cfg := by
  unfold State.markLive; split <;> rfl
@[simp] theorem State.markLive_buf : (s.markLive cyc).buf = s.buf := by
  unfold State.markLive; split <;> rfl
@[simp] theorem State.markLive_bufSize : (s.markLive cyc).bufSize = s.bufSize := by
  unfold State.markLive; split <;> rfl
@[simp] theorem State.markLive_pivot : (s.markLive cyc).pivot = s.pivot := by
  unfold State.markLive; split <;> rfl
@[simp] theorem State.markLive_curChan : (s.markLive cyc).curChan = s.curChan := by
  unfold State.markLive; split <;> rfl
@[simp] theorem State.markLive_live : (s.markLive cyc).live = s.live := by
  unfold State.markLive; split <;> rfl
@[simp] theorem State.markLive_tstate : (s.markLive cyc).tstate = s.tstate := by
  unfold State.markLive; split <;> rfl
@[simp] theorem State.markLive_dlyCnt : (s.markLive cyc).dlyCnt = s.dlyCnt := by
  unfold State.markLive; split <;> rfl
@[simp] theorem State.markLive_start : (s.markLive cyc).start = s.start := by
  unfold State.markLive; split <;> rfl
@[simp] theorem State.markLive_supCnt : (s.markLive cyc).supCnt = s.supCnt := by
  unfold State.markLive; split <;> rfl
@[simp] theorem State.markLive_skipCnt : (s.markLive cyc).skipCnt = s.skipCnt := by
  unfold State.markLive; split <;> rfl
@[simp] theorem State.markLive_astate : (s.markLive cyc).astate = s.astate := by
  unfold State.markLive; split <;> rfl
@[simp] theorem State.markLive_susp : (s.markLive cyc).susp = s.susp := by
  unfold State.markLive; split <;> rfl
@[simp] theorem State.markLive_ill : (s.markLive cyc).ill = s.ill := by
  unfold State.markLive; split <;> rfl
@[simp] theorem State.markLive_rdata : (s.markLive cyc).rdata = s.rdata := by
  unfold State.markLive; split <;> rfl
@[simp] theorem State.markLive_inputs : (s.markLive cyc).inputs = s.inputs := by
  unfold State.markLive; split <;> rfl
@[simp] theorem State.markLive_arbSeq : (s.markLive cyc).arbSeq = s.arbSeq := by
  unfold State.markLive; split <;> rfl

/-- The live flag after step 3 (R166). -/
@[simp] theorem State.markLive_liveAvail : (s.markLive cyc).liveAvail = (s.liveAvail || cyc) := by
  unfold State.markLive
  cases cyc <;> simp

/-! What `SupStep` leaves (R132). -/

@[simp] theorem State.supStep_staged : (s.supStep cyc).staged = s.staged := by
  unfold State.supStep; split; (simp only []; split <;> rfl); rfl
@[simp] theorem State.supStep_cfg : (s.supStep cyc).cfg = s.cfg := by
  unfold State.supStep; split; (simp only []; split <;> rfl); rfl
@[simp] theorem State.supStep_buf : (s.supStep cyc).buf = s.buf := by
  unfold State.supStep; split; (simp only []; split <;> rfl); rfl
@[simp] theorem State.supStep_bufSize : (s.supStep cyc).bufSize = s.bufSize := by
  unfold State.supStep; split; (simp only []; split <;> rfl); rfl
@[simp] theorem State.supStep_pivot : (s.supStep cyc).pivot = s.pivot := by
  unfold State.supStep; split; (simp only []; split <;> rfl); rfl
@[simp] theorem State.supStep_curChan : (s.supStep cyc).curChan = s.curChan := by
  unfold State.supStep; split; (simp only []; split <;> rfl); rfl
@[simp] theorem State.supStep_live : (s.supStep cyc).live = s.live := by
  unfold State.supStep; split; (simp only []; split <;> rfl); rfl
@[simp] theorem State.supStep_dlyCnt : (s.supStep cyc).dlyCnt = s.dlyCnt := by
  unfold State.supStep; split; (simp only []; split <;> rfl); rfl
@[simp] theorem State.supStep_start : (s.supStep cyc).start = s.start := by
  unfold State.supStep; split; (simp only []; split <;> rfl); rfl
@[simp] theorem State.supStep_skipCnt : (s.supStep cyc).skipCnt = s.skipCnt := by
  unfold State.supStep; split; (simp only []; split <;> rfl); rfl
@[simp] theorem State.supStep_astate : (s.supStep cyc).astate = s.astate := by
  unfold State.supStep; split; (simp only []; split <;> rfl); rfl
@[simp] theorem State.supStep_susp : (s.supStep cyc).susp = s.susp := by
  unfold State.supStep; split; (simp only []; split <;> rfl); rfl
@[simp] theorem State.supStep_liveAvail : (s.supStep cyc).liveAvail = s.liveAvail := by
  unfold State.supStep; split; (simp only []; split <;> rfl); rfl
@[simp] theorem State.supStep_ill : (s.supStep cyc).ill = s.ill := by
  unfold State.supStep; split; (simp only []; split <;> rfl); rfl
@[simp] theorem State.supStep_rdata : (s.supStep cyc).rdata = s.rdata := by
  unfold State.supStep; split; (simp only []; split <;> rfl); rfl
@[simp] theorem State.supStep_inputs : (s.supStep cyc).inputs = s.inputs := by
  unfold State.supStep; split; (simp only []; split <;> rfl); rfl
@[simp] theorem State.supStep_arbSeq : (s.supStep cyc).arbSeq = s.arbSeq := by
  unfold State.supStep; split; (simp only []; split <;> rfl); rfl

/-- `SupStep` outside a completed cycle in IDLE does nothing (R132). -/
theorem State.supStep_of_not (h : ¬(cyc = true ∧ s.tstate = .idle)) : s.supStep cyc = s := by
  unfold State.supStep
  rw [if_neg h]

/-- `SupStep` at a completed cycle in IDLE counts it (R132). -/
theorem State.supStep_supCnt (h : cyc = true ∧ s.tstate = .idle) : (s.supStep cyc).supCnt = s.supCnt + 1 := by
  unfold State.supStep
  rw [if_pos h]
  simp only []
  split <;> rfl

/-- `SupStep` at a completed cycle in IDLE arms the trigger when the count is `pre + 1` (R132). -/
theorem State.supStep_tstate (h : cyc = true ∧ s.tstate = .idle) :
    (s.supStep cyc).tstate = if (s.supCnt + 1).toNat = s.cfg.pre.toNat + 1 then .armed else .idle := by
  unfold State.supStep
  rw [if_pos h]
  simp only []
  split <;> rename_i h1 <;> simp only [State.setSupCnt_supCnt, State.setSupCnt_cfg] at h1
  · rw [if_pos h1]
    rfl
  · rw [if_neg h1]
    exact h.2

/-! What `Fire()` leaves (R136). -/

@[simp] theorem State.fire_staged : s.fire.staged = s.staged := by
  unfold State.fire; simp only []; split <;> rfl
@[simp] theorem State.fire_cfg : s.fire.cfg = s.cfg := by
  unfold State.fire; simp only []; split <;> rfl
@[simp] theorem State.fire_buf : s.fire.buf = s.buf := by
  unfold State.fire; simp only []; split <;> rfl
@[simp] theorem State.fire_bufSize : s.fire.bufSize = s.bufSize := by
  unfold State.fire; simp only []; split <;> rfl
@[simp] theorem State.fire_pivot : s.fire.pivot = s.pivot := by
  unfold State.fire; simp only []; split <;> rfl
@[simp] theorem State.fire_curChan : s.fire.curChan = s.curChan := by
  unfold State.fire; simp only []; split <;> rfl
@[simp] theorem State.fire_live : s.fire.live = s.live := by
  unfold State.fire; simp only []; split <;> rfl
@[simp] theorem State.fire_supCnt : s.fire.supCnt = s.supCnt := by
  unfold State.fire; simp only []; split <;> rfl
@[simp] theorem State.fire_skipCnt : s.fire.skipCnt = s.skipCnt := by
  unfold State.fire; simp only []; split <;> rfl
@[simp] theorem State.fire_astate : s.fire.astate = s.astate := by
  unfold State.fire; simp only []; split <;> rfl
@[simp] theorem State.fire_susp : s.fire.susp = s.susp := by
  unfold State.fire; simp only []; split <;> rfl
@[simp] theorem State.fire_liveAvail : s.fire.liveAvail = s.liveAvail := by
  unfold State.fire; simp only []; split <;> rfl
@[simp] theorem State.fire_ill : s.fire.ill = s.ill := by
  unfold State.fire; simp only []; split <;> rfl
@[simp] theorem State.fire_rdata : s.fire.rdata = s.rdata := by
  unfold State.fire; simp only []; split <;> rfl
@[simp] theorem State.fire_inputs : s.fire.inputs = s.inputs := by
  unfold State.fire; simp only []; split <;> rfl
@[simp] theorem State.fire_arbSeq : s.fire.arbSeq = s.arbSeq := by
  unfold State.fire; simp only []; split <;> rfl

/-- `Fire()` sets the window's start (R136). -/
@[simp] theorem State.fire_start : s.fire.start = BitVec.ofNat 11 (startOf s.pivot.toNat s.cfg.dly.toNat
    s.bufSize.toNat s.cfg.tch.toNat s.cfg.pre.toNat s.cfg.nCh.toNat) := by
  unfold State.fire
  simp only []
  split <;> rfl

/-- `Fire()` clears the delay count (R136). -/
@[simp] theorem State.fire_dlyCnt : s.fire.dlyCnt = 0 := by
  unfold State.fire
  simp only []
  split <;> rfl

/-- `Fire()` leaves the transient FIRED at once (R136). -/
@[simp] theorem State.fire_tstate : s.fire.tstate = if s.cfg.dly = 0 then .capturing else .delay := by
  unfold State.fire
  simp only []
  split <;> rename_i h <;> simp_all

/-! What `DelayStep()` leaves (R138). -/

@[simp] theorem State.delayStep_staged : s.delayStep.staged = s.staged := by
  unfold State.delayStep; simp only []; split <;> rfl
@[simp] theorem State.delayStep_cfg : s.delayStep.cfg = s.cfg := by
  unfold State.delayStep; simp only []; split <;> rfl
@[simp] theorem State.delayStep_buf : s.delayStep.buf = s.buf := by
  unfold State.delayStep; simp only []; split <;> rfl
@[simp] theorem State.delayStep_bufSize : s.delayStep.bufSize = s.bufSize := by
  unfold State.delayStep; simp only []; split <;> rfl
@[simp] theorem State.delayStep_pivot : s.delayStep.pivot = s.pivot := by
  unfold State.delayStep; simp only []; split <;> rfl
@[simp] theorem State.delayStep_curChan : s.delayStep.curChan = s.curChan := by
  unfold State.delayStep; simp only []; split <;> rfl
@[simp] theorem State.delayStep_live : s.delayStep.live = s.live := by
  unfold State.delayStep; simp only []; split <;> rfl
@[simp] theorem State.delayStep_start : s.delayStep.start = s.start := by
  unfold State.delayStep; simp only []; split <;> rfl
@[simp] theorem State.delayStep_supCnt : s.delayStep.supCnt = s.supCnt := by
  unfold State.delayStep; simp only []; split <;> rfl
@[simp] theorem State.delayStep_skipCnt : s.delayStep.skipCnt = s.skipCnt := by
  unfold State.delayStep; simp only []; split <;> rfl
@[simp] theorem State.delayStep_astate : s.delayStep.astate = s.astate := by
  unfold State.delayStep; simp only []; split <;> rfl
@[simp] theorem State.delayStep_susp : s.delayStep.susp = s.susp := by
  unfold State.delayStep; simp only []; split <;> rfl
@[simp] theorem State.delayStep_liveAvail : s.delayStep.liveAvail = s.liveAvail := by
  unfold State.delayStep; simp only []; split <;> rfl
@[simp] theorem State.delayStep_ill : s.delayStep.ill = s.ill := by
  unfold State.delayStep; simp only []; split <;> rfl
@[simp] theorem State.delayStep_rdata : s.delayStep.rdata = s.rdata := by
  unfold State.delayStep; simp only []; split <;> rfl
@[simp] theorem State.delayStep_inputs : s.delayStep.inputs = s.inputs := by
  unfold State.delayStep; simp only []; split <;> rfl
@[simp] theorem State.delayStep_arbSeq : s.delayStep.arbSeq = s.arbSeq := by
  unfold State.delayStep; simp only []; split <;> rfl

/-- `DelayStep()` counts one period (R138). -/
@[simp] theorem State.delayStep_dlyCnt : s.delayStep.dlyCnt = s.dlyCnt + 1 := by
  unfold State.delayStep
  simp only []
  split <;> rfl

/-- `DelayStep()` ends the delay when the count is `dly` (R138). -/
@[simp] theorem State.delayStep_tstate :
    s.delayStep.tstate = if s.dlyCnt + 1 = s.cfg.dly then .capturing else s.tstate := by
  unfold State.delayStep
  simp only []
  split <;> rename_i h <;> simp_all

/-- Everything `TrigStep` can do (R133): fire, count a delay period, or nothing. -/
theorem State.trigStep_cases :
    (s.curChan = s.cfg.tch ∧ s.tstate = .armed ∧ s.edgeFire v = true ∧ s.trigStep v = s.fire) ∨
    (s.curChan = s.cfg.tch ∧ s.tstate = .delay ∧ s.trigStep v = s.delayStep) ∨
    (¬(s.curChan = s.cfg.tch ∧ s.tstate = .armed ∧ s.edgeFire v = true) ∧
      ¬(s.curChan = s.cfg.tch ∧ s.tstate = .delay) ∧ s.trigStep v = s) := by
  unfold State.trigStep
  by_cases hc : s.curChan = s.cfg.tch
  · rw [if_pos hc]
    cases ht : s.tstate
    · simp
    · by_cases he : s.edgeFire v = true <;> simp [hc, he]
    · simp
    · simp [hc]
    · simp
  · rw [if_neg hc]
    simp [hc]

/-! What `TrigStep` leaves (R133). -/

@[simp] theorem State.trigStep_staged : (s.trigStep v).staged = s.staged := by
  rcases s.trigStep_cases v with h | h | h <;> simp [h]
@[simp] theorem State.trigStep_cfg : (s.trigStep v).cfg = s.cfg := by
  rcases s.trigStep_cases v with h | h | h <;> simp [h]
@[simp] theorem State.trigStep_buf : (s.trigStep v).buf = s.buf := by
  rcases s.trigStep_cases v with h | h | h <;> simp [h]
@[simp] theorem State.trigStep_bufSize : (s.trigStep v).bufSize = s.bufSize := by
  rcases s.trigStep_cases v with h | h | h <;> simp [h]
@[simp] theorem State.trigStep_pivot : (s.trigStep v).pivot = s.pivot := by
  rcases s.trigStep_cases v with h | h | h <;> simp [h]
@[simp] theorem State.trigStep_curChan : (s.trigStep v).curChan = s.curChan := by
  rcases s.trigStep_cases v with h | h | h <;> simp [h]
@[simp] theorem State.trigStep_live : (s.trigStep v).live = s.live := by
  rcases s.trigStep_cases v with h | h | h <;> simp [h]
@[simp] theorem State.trigStep_supCnt : (s.trigStep v).supCnt = s.supCnt := by
  rcases s.trigStep_cases v with h | h | h <;> simp [h]
@[simp] theorem State.trigStep_skipCnt : (s.trigStep v).skipCnt = s.skipCnt := by
  rcases s.trigStep_cases v with h | h | h <;> simp [h]
@[simp] theorem State.trigStep_astate : (s.trigStep v).astate = s.astate := by
  rcases s.trigStep_cases v with h | h | h <;> simp [h]
@[simp] theorem State.trigStep_susp : (s.trigStep v).susp = s.susp := by
  rcases s.trigStep_cases v with h | h | h <;> simp [h]
@[simp] theorem State.trigStep_liveAvail : (s.trigStep v).liveAvail = s.liveAvail := by
  rcases s.trigStep_cases v with h | h | h <;> simp [h]
@[simp] theorem State.trigStep_ill : (s.trigStep v).ill = s.ill := by
  rcases s.trigStep_cases v with h | h | h <;> simp [h]
@[simp] theorem State.trigStep_rdata : (s.trigStep v).rdata = s.rdata := by
  rcases s.trigStep_cases v with h | h | h <;> simp [h]
@[simp] theorem State.trigStep_inputs : (s.trigStep v).inputs = s.inputs := by
  rcases s.trigStep_cases v with h | h | h <;> simp [h]
@[simp] theorem State.trigStep_arbSeq : (s.trigStep v).arbSeq = s.arbSeq := by
  rcases s.trigStep_cases v with h | h | h <;> simp [h]

/-! What the completion check leaves (R168). -/

@[simp] theorem State.complete_staged : s.complete.staged = s.staged := by
  unfold State.complete; split <;> rfl
@[simp] theorem State.complete_cfg : s.complete.cfg = s.cfg := by
  unfold State.complete; split <;> rfl
@[simp] theorem State.complete_buf : s.complete.buf = s.buf := by
  unfold State.complete; split <;> rfl
@[simp] theorem State.complete_bufSize : s.complete.bufSize = s.bufSize := by
  unfold State.complete; split <;> rfl
@[simp] theorem State.complete_pivot : s.complete.pivot = s.pivot := by
  unfold State.complete; split <;> rfl
@[simp] theorem State.complete_curChan : s.complete.curChan = s.curChan := by
  unfold State.complete; split <;> rfl
@[simp] theorem State.complete_live : s.complete.live = s.live := by
  unfold State.complete; split <;> rfl
@[simp] theorem State.complete_tstate : s.complete.tstate = s.tstate := by
  unfold State.complete; split <;> rfl
@[simp] theorem State.complete_dlyCnt : s.complete.dlyCnt = s.dlyCnt := by
  unfold State.complete; split <;> rfl
@[simp] theorem State.complete_start : s.complete.start = s.start := by
  unfold State.complete; split <;> rfl
@[simp] theorem State.complete_supCnt : s.complete.supCnt = s.supCnt := by
  unfold State.complete; split <;> rfl
@[simp] theorem State.complete_skipCnt : s.complete.skipCnt = s.skipCnt := by
  unfold State.complete; split <;> rfl
@[simp] theorem State.complete_susp : s.complete.susp = s.susp := by
  unfold State.complete; split <;> rfl
@[simp] theorem State.complete_liveAvail : s.complete.liveAvail = s.liveAvail := by
  unfold State.complete; split <;> rfl
@[simp] theorem State.complete_ill : s.complete.ill = s.ill := by
  unfold State.complete; split <;> rfl
@[simp] theorem State.complete_rdata : s.complete.rdata = s.rdata := by
  unfold State.complete; split <;> rfl
@[simp] theorem State.complete_inputs : s.complete.inputs = s.inputs := by
  unfold State.complete; split <;> rfl
@[simp] theorem State.complete_arbSeq : s.complete.arbSeq = s.arbSeq := by
  unfold State.complete; split <;> rfl

/-- The completion check (R139, R168). -/
@[simp] theorem State.complete_astate :
    s.complete.astate = if s.tstate = .capturing ∧ s.pivot = s.start then .ready else s.astate := by
  unfold State.complete State.windowComplete
  by_cases h1 : s.tstate = .capturing <;> by_cases h2 : s.pivot = s.start <;> simp [h1, h2]

end Conditional

section Accepted

variable (s : State) (v : Sample)

/-! What an accepted sample writes apart from the trigger, and what it leaves (R162, R165, R166, R101, R113). -/

@[simp] theorem State.accept_staged : (s.accept v).staged = s.staged := by
  simp [State.accept]
@[simp] theorem State.accept_cfg : (s.accept v).cfg = s.cfg := by
  simp [State.accept]
@[simp] theorem State.accept_buf : (s.accept v).buf = s.buf.write s.pivot.toNat v := by
  simp [State.accept]
@[simp] theorem State.accept_bufSize : (s.accept v).bufSize = s.bufSize := by
  simp [State.accept]
@[simp] theorem State.accept_pivot : (s.accept v).pivot = BitVec.ofNat 11 ((s.pivot.toNat + 1) % s.bufSize.toNat) := by
  simp [State.accept]
@[simp] theorem State.accept_curChan : (s.accept v).curChan = BitVec.ofNat 3 ((s.curChan.toNat + 1) % s.cfg.nCh.toNat) := by
  simp [State.accept]
@[simp] theorem State.accept_live : (s.accept v).live = s.live.set s.curChan.toNat v := by
  simp [State.accept]
@[simp] theorem State.accept_skipCnt : (s.accept v).skipCnt = s.cfg.skip := by
  simp [State.accept]
@[simp] theorem State.accept_susp : (s.accept v).susp = s.susp := by
  simp [State.accept]
@[simp] theorem State.accept_ill : (s.accept v).ill = s.ill := by
  simp [State.accept]
@[simp] theorem State.accept_rdata : (s.accept v).rdata = s.rdata := by
  simp [State.accept]
@[simp] theorem State.accept_inputs : (s.accept v).inputs = s.inputs := by
  simp [State.accept]
@[simp] theorem State.accept_arbSeq : (s.accept v).arbSeq = s.arbSeq := by
  simp [State.accept]

/-- An accepted sample that completes a channel-cycle sets the live flag (R166). -/
@[simp] theorem State.accept_liveAvail :
    (s.accept v).liveAvail = (s.liveAvail || decide (s.curChan.toNat + 1 = s.cfg.nCh.toNat)) := by
  simp only [State.accept, State.complete_liveAvail, State.supStep_liveAvail, State.nextChan_liveAvail,
    State.advancePivot_liveAvail, State.trigStep_liveAvail, State.markLive_liveAvail, State.cycleComplete]
  rfl

/-- The three cases of the SAMPLE sequence (R162 to R164). -/
theorem State.sample_cases :
    ((s.susp = true ∨ s.astate = .ready) ∧ s.sample v = s) ∨
    (s.susp = false ∧ s.astate = .run ∧ s.skipCnt ≠ 0 ∧ s.sample v = s.setSkipCnt (s.skipCnt - 1)) ∨
    (s.susp = false ∧ s.astate = .run ∧ s.skipCnt = 0 ∧ s.sample v = s.accept v) := by
  unfold State.sample
  by_cases h1 : s.susp = true ∨ s.astate = .ready
  · exact .inl ⟨h1, if_pos h1⟩
  · have h2 : s.susp = false := by
      cases h : s.susp
      · rfl
      · exact absurd (.inl h) h1
    have h3 : s.astate = .run := by
      cases h : s.astate
      · rfl
      · exact absurd (.inr h) h1
    rw [if_neg h1]
    by_cases h4 : s.skipCnt ≠ 0
    · exact .inr (.inl ⟨h2, h3, h4, if_pos h4⟩)
    · exact .inr (.inr ⟨h2, h3, by simpa using h4, if_neg h4⟩)

end Accepted

/-- Every operation that is `done` answers that next state. -/
theorem done_eq_next {s t : State} {r : Word} (h : done s r = .next t) : t = s.setRdata r := by
  cases h
  rfl

end Sys2Proof.Machine
end

