-- ==== Sys2Proof/Laws/PerInstr.lean ====
section
/-! SUPPORT. A family of statements made per instruction: the word of an operation is a legal word (R86), one lemma per
constructor of `Instr`. -/

namespace Sys2Proof.Laws

open Sys2Proof

/-- The encoding of the operation meets none of the three conditions of R86. -/
def EncodesLegalWord.Statement : Instr → Prop := fun i => legalWord (encode i) = true

/-- A word is legal when its three fields meet the three conditions of R86. -/
theorem legalWord_mkWord (op mid : BitVec 4) (low : Imm24)
    (hz : mkWord op mid low &&& (Format.ofOpcode op.toNat).zeroBits = 0)
    (hi : (Format.ofOpcode op.toNat).hasIdx = false ∨ mid.toNat < 10)
    (hc : op ≠ 0xC ∨ low.toNat % 8 < 6) : legalWord (mkWord op mid low) = true := by
  have h1 : (mkWord op mid low).toNat / 2 ^ 28 = op.toNat := by rw [← fieldOp_toNat, fieldOp_mkWord]
  have h2 : (mkWord op mid low).toNat / 2 ^ 24 % 16 = mid.toNat := by rw [← fieldMid_toNat, fieldMid_mkWord]
  have h3 : (mkWord op mid low).toNat % 8 = low.toNat % 8 := by rw [mkWord_toNat]; omega
  have h4 : op ≠ 0xC → op.toNat ≠ 0xC := fun h e => h (BitVec.eq_of_toNat_eq e)
  rw [legalWord, zeroFieldsClear, idxInRange, liveChannelInRange, h1, h2, h3, hz]
  simp only [Config.MAXCH, beq_self_eq_true, Bool.true_and, Bool.and_eq_true, Bool.or_eq_true, Bool.not_eq_true',
    decide_eq_true_eq, beq_eq_false_iff_ne]
  exact ⟨hi, hc.imp h4 decide_eq_true⟩

/-- A word of format W is legal for every operand. -/
theorem legalWord_wrcfg (mid : BitVec 4) (imm : Imm24) (h : mid.toNat < 10) :
    legalWord (mkWord 0x5 mid imm) = true :=
  legalWord_mkWord _ _ _ BitVec.and_zero (.inr h) (.inl (by decide))

/-- A word of format X is legal for every operand. -/
theorem legalWord_index (op : BitVec 4) (i : Imm24) (hf : Format.ofOpcode op.toNat = .X) (hc : op ≠ 0xC) :
    legalWord (mkWord op 0 i) = true := by
  refine legalWord_mkWord _ _ _ ?_ (.inl (by rw [hf]; rfl)) (.inl hc)
  rw [hf, show Format.zeroBits .X = mkWord 0 0xF 0 from rfl, mkWord_and,
    show i &&& (0 : Imm24) = 0 from BitVec.and_zero, show op &&& (0 : BitVec 4) = 0 from BitVec.and_zero]
  rfl

theorem EncodesLegalWord.nop : EncodesLegalWord.Statement .nop := rfl

theorem EncodesLegalWord.sample (v : Sample) : EncodesLegalWord.Statement (.sample v) := by
  refine legalWord_mkWord _ _ _ ?_ (.inl rfl) (.inl (by decide))
  rw [show Format.zeroBits (Format.ofOpcode (0x1 : BitVec 4).toNat) = mkWord 0 0xF 0xFFFC00 from rfl, mkWord_and]
  have h : v.setWidth 24 &&& (0xFFFC00 : Imm24) = 0 := by
    ext k hk
    rcases Nat.lt_or_ge k 10 with hk' | hk'
    · interval_cases k <;> simp
    · simp [BitVec.getElem_setWidth, BitVec.getLsbD_of_ge v k hk']
  rw [h]
  rfl

theorem EncodesLegalWord.exttrig : EncodesLegalWord.Statement .exttrig := rfl

theorem EncodesLegalWord.suspend : EncodesLegalWord.Statement .suspend := rfl

theorem EncodesLegalWord.resume : EncodesLegalWord.Statement .resume := rfl

theorem EncodesLegalWord.wrcfgNCh (imm : Imm24) : EncodesLegalWord.Statement (.wrcfgNCh imm) :=
  legalWord_wrcfg _ imm (by decide)

theorem EncodesLegalWord.wrcfgPeriod (imm : Imm24) : EncodesLegalWord.Statement (.wrcfgPeriod imm) :=
  legalWord_wrcfg _ imm (by decide)

theorem EncodesLegalWord.wrcfgMode (imm : Imm24) : EncodesLegalWord.Statement (.wrcfgMode imm) :=
  legalWord_wrcfg _ imm (by decide)

theorem EncodesLegalWord.wrcfgTch (imm : Imm24) : EncodesLegalWord.Statement (.wrcfgTch imm) :=
  legalWord_wrcfg _ imm (by decide)

theorem EncodesLegalWord.wrcfgThr (imm : Imm24) : EncodesLegalWord.Statement (.wrcfgThr imm) :=
  legalWord_wrcfg _ imm (by decide)

theorem EncodesLegalWord.wrcfgPre (imm : Imm24) : EncodesLegalWord.Statement (.wrcfgPre imm) :=
  legalWord_wrcfg _ imm (by decide)

theorem EncodesLegalWord.wrcfgDly (imm : Imm24) : EncodesLegalWord.Statement (.wrcfgDly imm) :=
  legalWord_wrcfg _ imm (by decide)

theorem EncodesLegalWord.wrcfgNS (imm : Imm24) : EncodesLegalWord.Statement (.wrcfgNS imm) :=
  legalWord_wrcfg _ imm (by decide)

theorem EncodesLegalWord.wrcfgRes (imm : Imm24) : EncodesLegalWord.Statement (.wrcfgRes imm) :=
  legalWord_wrcfg _ imm (by decide)

theorem EncodesLegalWord.wrcfgSkip (imm : Imm24) : EncodesLegalWord.Statement (.wrcfgSkip imm) :=
  legalWord_wrcfg _ imm (by decide)

theorem EncodesLegalWord.apply (fbr : Bool) : EncodesLegalWord.Statement (.apply fbr) := by
  cases fbr <;> rfl

theorem EncodesLegalWord.rdcfgNCh (st : Bool) : EncodesLegalWord.Statement (.rdcfgNCh st) := by
  cases st <;> rfl

theorem EncodesLegalWord.rdcfgPeriod (st : Bool) : EncodesLegalWord.Statement (.rdcfgPeriod st) := by
  cases st <;> rfl

theorem EncodesLegalWord.rdcfgMode (st : Bool) : EncodesLegalWord.Statement (.rdcfgMode st) := by
  cases st <;> rfl

theorem EncodesLegalWord.rdcfgTch (st : Bool) : EncodesLegalWord.Statement (.rdcfgTch st) := by
  cases st <;> rfl

theorem EncodesLegalWord.rdcfgThr (st : Bool) : EncodesLegalWord.Statement (.rdcfgThr st) := by
  cases st <;> rfl

theorem EncodesLegalWord.rdcfgPre (st : Bool) : EncodesLegalWord.Statement (.rdcfgPre st) := by
  cases st <;> rfl

theorem EncodesLegalWord.rdcfgDly (st : Bool) : EncodesLegalWord.Statement (.rdcfgDly st) := by
  cases st <;> rfl

theorem EncodesLegalWord.rdcfgNS (st : Bool) : EncodesLegalWord.Statement (.rdcfgNS st) := by
  cases st <;> rfl

theorem EncodesLegalWord.rdcfgRes (st : Bool) : EncodesLegalWord.Statement (.rdcfgRes st) := by
  cases st <;> rfl

theorem EncodesLegalWord.rdcfgSkip (st : Bool) : EncodesLegalWord.Statement (.rdcfgSkip st) := by
  cases st <;> rfl

theorem EncodesLegalWord.rdregStatus : EncodesLegalWord.Statement .rdregStatus := rfl

theorem EncodesLegalWord.rdregPivot : EncodesLegalWord.Statement .rdregPivot := rfl

theorem EncodesLegalWord.rdregStart : EncodesLegalWord.Statement .rdregStart := rfl

theorem EncodesLegalWord.rdregDlyCnt : EncodesLegalWord.Statement .rdregDlyCnt := rfl

theorem EncodesLegalWord.rdregSupCnt : EncodesLegalWord.Statement .rdregSupCnt := rfl

theorem EncodesLegalWord.rdregBufSize : EncodesLegalWord.Statement .rdregBufSize := rfl

theorem EncodesLegalWord.rdregCurChan : EncodesLegalWord.Statement .rdregCurChan := rfl

theorem EncodesLegalWord.rdregSkipCnt : EncodesLegalWord.Statement .rdregSkipCnt := rfl

theorem EncodesLegalWord.rdregCap : EncodesLegalWord.Statement .rdregCap := rfl

theorem EncodesLegalWord.rdregMaxCh : EncodesLegalWord.Statement .rdregMaxCh := rfl

theorem EncodesLegalWord.rdbuf (i : Imm24) : EncodesLegalWord.Statement (.rdbuf i) :=
  legalWord_index _ i rfl (by decide)

theorem EncodesLegalWord.rdwin (i : Imm24) : EncodesLegalWord.Statement (.rdwin i) :=
  legalWord_index _ i rfl (by decide)

theorem EncodesLegalWord.rdts (h : Bool) (i : Imm24) : EncodesLegalWord.Statement (.rdts h i) := by
  cases h <;>
  · refine legalWord_mkWord _ _ _ ?_ (.inl rfl) (.inl (by decide))
    rw [show Format.zeroBits (Format.ofOpcode (0xB : BitVec 4).toNat) = mkWord 0 0xE 0 from rfl, mkWord_and,
      show i &&& (0 : Imm24) = 0 from BitVec.and_zero]
    rfl

theorem EncodesLegalWord.rdlive0 : EncodesLegalWord.Statement .rdlive0 := rfl

theorem EncodesLegalWord.rdlive1 : EncodesLegalWord.Statement .rdlive1 := rfl

theorem EncodesLegalWord.rdlive2 : EncodesLegalWord.Statement .rdlive2 := rfl

theorem EncodesLegalWord.rdlive3 : EncodesLegalWord.Statement .rdlive3 := rfl

theorem EncodesLegalWord.rdlive4 : EncodesLegalWord.Statement .rdlive4 := rfl

theorem EncodesLegalWord.rdlive5 : EncodesLegalWord.Statement .rdlive5 := rfl

theorem EncodesLegalWord.acklive : EncodesLegalWord.Statement .acklive := rfl

theorem EncodesLegalWord.ackcap : EncodesLegalWord.Statement .ackcap := rfl

theorem EncodesLegalWord.reset : EncodesLegalWord.Statement .reset := rfl

end Sys2Proof.Laws
end

