-- ==== Sys2Proof/Tests/Slice0.lean ====
section
/-! SUPPORT. Tests: illegal words are refused, hand-written words decode, single operations give the spec's values, and
every statement's hypotheses are met by a concrete state. Expected values are the spec's (95_test_vectors.md, by vector
number) or worked out by hand from the rule named. -/

namespace Sys2Proof.Tests

open Sys2Proof Sys2Proof.Machine

/-! ## Well-formedness (R86) and the parameters (R8) -/

/-- Check 1 of R86 refuses set bits in a zero field, one word for each format (V34). -/
theorem test_zero_fields_refused :
    [0x10000400, 0x00000001, 0x60000002, 0x70000002, 0x80000001, 0x91000000, 0xB2000000, 0xC0000008].map
      (fun w : Word => (zeroFieldsClear w, legalWord w, decode w)) = List.replicate 8 (false, false, none) :=
  by decide

/-- Check 2 of R86 refuses `idx` from 10 on, in each of the formats W, C and G (V34). -/
theorem test_idx_refused :
    [0x5A000000, 0x7A000000, 0x8A000000, 0x5F000000, 0x7F000001, 0x8F000000].map
      (fun w : Word => (zeroFieldsClear w, idxInRange w, legalWord w, decode w)) =
      List.replicate 6 (true, false, false, none) := by decide

/-- Check 3 of R86 refuses RDLIVE 6 and RDLIVE 7 (V34). -/
theorem test_live_channel_refused :
    [0xC0000006, 0xC0000007].map
      (fun w : Word => (zeroFieldsClear w, idxInRange w, liveChannelInRange w, legalWord w, decode w)) =
      List.replicate 2 (true, true, false, false, none) := by decide

/-- The constraints a parameter set must satisfy (R8). -/
theorem test_parameter_constraints :
    1 ≤ Config.MAXCH ∧ Config.MINNS * Config.MAXCH ≤ Config.CAP ∧ 2 ≤ Config.MINNS ∧ 1 ≤ Config.SW ∧
    Config.MAXTHR = 2 ^ Config.SW - 1 ∧ Config.CAP < 2 ^ Config.IW ∧ Config.MAXDLY < 2 ^ Config.DW ∧
    Config.MAXPER < 2 ^ Config.PW ∧ Config.MAXCH ≤ 2 ^ Config.CW := by decide

/-- The table of R87 has 48 rows, named as the constructors of `Instr` in their order. -/
theorem test_table_has_48_rows : tableRows.length = 48 := by decide

/-! ## Decoding: a word written out bit by bit from R81 and R82 for every constructor -/

theorem test_decode_plain :
    decode 0b00000000000000000000000000000000#32 = some .nop ∧
    decode 0b00010000000000000000001111111111#32 = some (.sample 1023) ∧
    decode 0b00100000000000000000000000000000#32 = some .exttrig ∧
    decode 0b00110000000000000000000000000000#32 = some .suspend ∧
    decode 0b01000000000000000000000000000000#32 = some .resume ∧
    decode 0b01100000000000000000000000000000#32 = some (.apply false) ∧
    decode 0b01100000000000000000000000000001#32 = some (.apply true) ∧
    decode 0b11010000000000000000000000000000#32 = some .acklive ∧
    decode 0b11100000000000000000000000000000#32 = some .ackcap ∧
    decode 0b11110000000000000000000000000000#32 = some .reset := by decide

theorem test_decode_wrcfg :
    decode 0b01010000100000000000000000000001#32 = some (.wrcfgNCh 8388609) ∧
    decode 0b01010001000000000000010110100001#32 = some (.wrcfgPeriod 1441) ∧
    decode 0b01010010100000000000001000100011#32 = some (.wrcfgMode 8389155) ∧
    decode 0b01010011000000000000010110100011#32 = some (.wrcfgTch 1443) ∧
    decode 0b01010100100000000000010001000101#32 = some (.wrcfgThr 8389701) ∧
    decode 0b01010101000000000000010110100101#32 = some (.wrcfgPre 1445) ∧
    decode 0b01010110100000000000011001100111#32 = some (.wrcfgDly 8390247) ∧
    decode 0b01010111000000000000010110100111#32 = some (.wrcfgNS 1447) ∧
    decode 0b01011000100000000000100010001001#32 = some (.wrcfgRes 8390793) ∧
    decode 0b01011001000000000000010110101001#32 = some (.wrcfgSkip 1449) := by decide

theorem test_decode_rdcfg :
    decode 0b01110000000000000000000000000000#32 = some (.rdcfgNCh false) ∧
    decode 0b01110001000000000000000000000001#32 = some (.rdcfgPeriod true) ∧
    decode 0b01110010000000000000000000000000#32 = some (.rdcfgMode false) ∧
    decode 0b01110011000000000000000000000001#32 = some (.rdcfgTch true) ∧
    decode 0b01110100000000000000000000000000#32 = some (.rdcfgThr false) ∧
    decode 0b01110101000000000000000000000001#32 = some (.rdcfgPre true) ∧
    decode 0b01110110000000000000000000000000#32 = some (.rdcfgDly false) ∧
    decode 0b01110111000000000000000000000001#32 = some (.rdcfgNS true) ∧
    decode 0b01111000000000000000000000000000#32 = some (.rdcfgRes false) ∧
    decode 0b01111001000000000000000000000001#32 = some (.rdcfgSkip true) := by decide

theorem test_decode_rdreg :
    decode 0b10000000000000000000000000000000#32 = some .rdregStatus ∧
    decode 0b10000001000000000000000000000000#32 = some .rdregPivot ∧
    decode 0b10000010000000000000000000000000#32 = some .rdregStart ∧
    decode 0b10000011000000000000000000000000#32 = some .rdregDlyCnt ∧
    decode 0b10000100000000000000000000000000#32 = some .rdregSupCnt ∧
    decode 0b10000101000000000000000000000000#32 = some .rdregBufSize ∧
    decode 0b10000110000000000000000000000000#32 = some .rdregCurChan ∧
    decode 0b10000111000000000000000000000000#32 = some .rdregSkipCnt ∧
    decode 0b10001000000000000000000000000000#32 = some .rdregCap ∧
    decode 0b10001001000000000000000000000000#32 = some .rdregMaxCh := by decide

theorem test_decode_readout :
    decode 0b10010000000000000000000010000001#32 = some (.rdbuf 129) ∧
    decode 0b10100000100000000000000000000011#32 = some (.rdwin 8388611) ∧
    decode 0b10110000000000000000000000000110#32 = some (.rdts false 6) ∧
    decode 0b10110001100000000000000000000000#32 = some (.rdts true 8388608) ∧
    decode 0b11000000000000000000000000000000#32 = some .rdlive0 ∧
    decode 0b11000000000000000000000000000001#32 = some .rdlive1 ∧
    decode 0b11000000000000000000000000000010#32 = some .rdlive2 ∧
    decode 0b11000000000000000000000000000011#32 = some .rdlive3 ∧
    decode 0b11000000000000000000000000000100#32 = some .rdlive4 ∧
    decode 0b11000000000000000000000000000101#32 = some .rdlive5 := by decide

/-- Every word of V34 is illegal. -/
theorem test_decode_illegal :
    [0x10000400, 0x5A000000, 0x00000001, 0x60000002, 0x7A000000, 0x70000002, 0x80000001, 0x8A000000, 0x91000000,
     0xB2000000, 0xC0000006, 0xC0000008, 0xD0000001, 0xF0000001, 0x20000001].map decode =
      List.replicate 15 none := by decide

/-- The host's numbering: the word is the number (log 13). -/
theorem test_decode_table_word : decodeTableWord 32 0x54000190 = some (.wrcfgThr 400) := by decide

/-! ## Single operations

`next o` is the next state of an outcome; no outcome of this model is a fault or a refusal (R16), so the second
argument is never taken. -/

/-- The next state of an outcome. -/
def next (o : Host.Outcome State Fault Refusal) (d : State) : State :=
  match o with
  | .next t => t
  | .fault _ => d
  | .refused _ => d

/-- The state after one operation. -/
def after (i : Instr) (s : State) : State := next (exec i s) s

/-- The state after operations one after another. -/
def afterAll (is : List Instr) (s : State) : State := next (execAll is s) s

/-- A small configuration: two channels of three samples, trigger on channel 1, one pre-trigger sample. -/
def demoCfg (mode : TrigMode) (dly : BitVec 11) (skip : BitVec 16) : Active :=
  { nCh := 2, period := 1000, mode := mode, tch := 1, thr := 500, pre := 1, dly := dly, nS := 3, res := 0,
    skip := skip }

/-- A running engine in that configuration about to take a sample of channel 1 at slot 1, the previous sample of that
channel (slot 5) being 400. -/
def demo (mode : TrigMode) (dly : BitVec 11) (t : TState) (sup : BitVec 11) : State :=
  { State.reset with
    cfg := demoCfg mode dly 0, staged := (demoCfg mode dly 0).toStaged, buf := [(0, 7), (4, 8), (5, 400)],
    bufSize := 6, pivot := 1, curChan := 1, live := { LiveSet.zero with ch0 := 7, ch1 := 400 }, tstate := t,
    supCnt := sup, susp := false, liveAvail := true }

/-- Armed on a rising crossing, without delay. -/
def armed : State := demo .rising 0 .armed 2

/-- Armed on a rising crossing, with a delay of two periods. -/
def armedDelayed : State := demo .rising 2 .armed 2

/-- Armed on a falling crossing; the previous sample 400 lies below the threshold, so none fires. -/
def armedFalling : State := demo .falling 0 .armed 2

/-- Armed for an external trigger. -/
def armedExternal : State := demo .external 0 .armed 2

/-- Armed for an external trigger, with a delay of one period. -/
def armedExternalDelayed : State := demo .external 1 .armed 2

/-- Waiting out a delay of two periods. -/
def delaying : State := demo .rising 2 .delay 2

/-- Settling, one channel-cycle before being armed. -/
def settling : State := demo .rising 0 .idle 1

/-- Just after a trigger reset. -/
def unsettled : State := demo .rising 0 .idle 0

/-- Collecting: the window closes when `pivot` is 2, with the next sample. -/
def closing : State := { demo .rising 0 .capturing 2 with start := 2 }

/-- Collecting, the throttle discarding. -/
def throttledCapture : State := { closing with skipCnt := 1, cfg := demoCfg .rising 0 1 }

/-- A complete window, held. -/
def held : State := { demo .rising 0 .capturing 2 with start := 1, astate := .ready }

/-- Live mode. -/
def live : State := demo .live 0 .armed 2

/-- The throttle has two more conversions to discard. -/
def throttled : State := { demo .live 0 .armed 2 with skipCnt := 2, cfg := demoCfg .live 0 2 }

/-- Live mode with a throttle of two, about to accept. -/
def throttling : State := { demo .live 0 .armed 2 with cfg := demoCfg .live 0 2 }

/-- One channel of 1200 samples at the largest period (V30). -/
def longest (pre dly : BitVec 11) : State :=
  { State.reset with
    cfg := { Active.reset with nS := 1200, pre := pre, dly := dly, period := 900000 }
    bufSize := 1200 }

/-- The first row of V20: two channels of ten samples, trigger channel 0, three pre-trigger samples. -/
def rowV20 : State :=
  { armed with bufSize := 20, cfg := { demoCfg .rising 0 0 with tch := 0, pre := 3, nS := 10 } }

/-- The first configuration of V21: one channel of eight samples, two pre-trigger samples. -/
def rowV21 : State :=
  { armedExternal with bufSize := 8, cfg := { demoCfg .external 0 0 with nCh := 1, tch := 0, pre := 2, nS := 8 } }

/-- The clamped configuration of a row of V26. -/
def clampRow : State := afterAll [.wrcfgNCh 5, .wrcfgNS 241, .wrcfgMode 7, .apply false] State.reset

/-- An instant at which nothing is presented. -/
def quietInstant : Instant := { sample := none, trig := false, host := none }

/-- The two events of the sampling context and a host word at one instant. -/
def contention : Instant := { sample := some 5, trig := true, host := some (encode .rdregStatus) }

/-- V35, R220. -/
theorem test_nop :
    (after .nop held).rdata = 0 := by decide

/-- R112, R113, R101: slot 1, then pivot 2 and channel 0. -/
theorem test_sample_stores :
    (after (.sample 600) armed).buf = [(0, 7), (1, 600), (4, 8), (5, 400)] ∧
    (after (.sample 600) armed).pivot = 2 ∧ (after (.sample 600) armed).curChan = 0 ∧
    (after (.sample 600) armed).live.ch1 = 600 := by decide

/-- writing what an unlisted slot reads as removes the entry (log 7). -/
theorem test_sample_zero_leaves_no_entry :
    (after (.sample 0) { armed with pivot := 5 }).buf = [(0, 7), (4, 8)] := by decide

/-- R136: start = norm(1 + 0 - 1 - 2, 6) = 4. -/
theorem test_sample_fires :
    (after (.sample 600) armed).tstate = .capturing ∧ (after (.sample 600) armed).start = 4 := by decide

/-- V13 to V15 with thr = 500, prev = 400: equal fires, 499 does not, falling does not. -/
theorem test_sample_v13 :
    (after (.sample 500) armed).tstate = .capturing ∧ (after (.sample 499) armed).tstate = .armed ∧
    (after (.sample 600) armedFalling).tstate = .armed := by decide

/-- R140. -/
theorem test_exttrig_fires :
    (after .exttrig armedExternal).tstate = .capturing ∧ (after .exttrig armedExternal).start = 4 := by decide

/-- V24: not in another mode, not while suspended. -/
theorem test_exttrig_dropped :
    (after .exttrig armed).tstate = .armed ∧ (after .exttrig { armedExternal with susp := true }).tstate = .armed :=
  by decide

/-- R170. -/
theorem test_suspend :
    (after .suspend armed).susp = true := by decide

/-- R171. -/
theorem test_resume :
    (after .resume State.reset).susp = false := by decide

/-- R181: nothing is checked. -/
theorem test_wrcfg :
    [.wrcfgNCh 0xFFFFFF, .wrcfgPeriod 0xFFFFFF, .wrcfgMode 0xFFFFFF, .wrcfgTch 0xFFFFFF, .wrcfgThr 0xFFFFFF,
     .wrcfgPre 0xFFFFFF, .wrcfgDly 0xFFFFFF, .wrcfgNS 0xFFFFFF, .wrcfgRes 0xFFFFFF, .wrcfgSkip 0xFFFFFF].map
      (fun i => (after i State.reset).staged) =
      [CfgField.nCh, .period, .mode, .tch, .thr, .pre, .dly, .nS, .res, .skip].map (fun f => Staged.reset.set f 0xFFFFFF) :=
  by decide

/-- V27: nothing changed, nS changed, res changed, forced. -/
theorem test_apply_results :
    (after (.apply false) State.reset).rdata = 2 ∧ (afterAll [.wrcfgNS 3, .apply false] State.reset).rdata = 3 ∧
    (afterAll [.wrcfgRes 1, .apply false] State.reset).rdata = 7 ∧ (after (.apply true) State.reset).rdata = 3 :=
  by decide

/-- V26: nCh 5 and nS 241 give nS 240 and bufSize 1200; mode 7 gives 4. -/
theorem test_apply_clamps :
    clampRow.cfg.nS = 240 ∧ clampRow.bufSize = 1200 ∧ clampRow.cfg.mode = .either := by decide

/-- R188. -/
theorem test_rdcfg :
    [.rdcfgNCh false, .rdcfgPeriod false, .rdcfgMode false, .rdcfgTch false, .rdcfgThr false,
     .rdcfgPre false, .rdcfgDly false, .rdcfgNS false, .rdcfgRes false, .rdcfgSkip false].map
      (fun i => (after i armedDelayed).rdata) = [2, 1000, 2, 1, 500, 1, 2, 3, 0, 0] := by decide

/-- R188. -/
theorem test_rdcfg_staged :
    [.rdcfgNCh true, .rdcfgPeriod true, .rdcfgMode true, .rdcfgTch true, .rdcfgThr true,
     .rdcfgPre true, .rdcfgDly true, .rdcfgNS true, .rdcfgRes true, .rdcfgSkip true].map
      (fun i => (after i { armedDelayed with staged := ⟨16, 17, 18, 19, 20, 21, 22, 23, 24, 25⟩ }).rdata) =
      [16, 17, 18, 19, 20, 21, 22, 23, 24, 25] := by decide

/-- V37. -/
theorem test_rdreg_reset :
    (after .rdregStatus State.reset).rdata = 4 ∧
    (after .rdregPivot State.reset).rdata = 0 ∧
    (after .rdregStart State.reset).rdata = 0 ∧
    (after .rdregDlyCnt State.reset).rdata = 0 ∧
    (after .rdregSupCnt State.reset).rdata = 0 ∧
    (after .rdregBufSize State.reset).rdata = 2 ∧
    (after .rdregCurChan State.reset).rdata = 0 ∧
    (after .rdregSkipCnt State.reset).rdata = 0 ∧
    (after .rdregCap State.reset).rdata = 0x4B0 ∧
    (after .rdregMaxCh State.reset).rdata = 6 := by decide

/-- V36: READY, with curChan 1. -/
theorem test_rdreg_status :
    (after .rdregStatus held).rdata = 0x00000143 := by decide

/-- R115, R63: index 11 is slot 5 of 6. -/
theorem test_rdbuf_reduces :
    (after (.rdbuf 11) armed).rdata = 400 ∧ (after (.rdbuf 0xFFFFFF) armed).rdata = 0 := by decide

/-- R201: offset 4 of the window at slot 1 is slot 5: valid, group 2, channel 1, value 400. -/
theorem test_rdwin_word :
    (after (.rdwin 4) held).rdata = 0x80000000 + 2 * 2 ^ 13 + 1 * 2 ^ 10 + 400 := by decide

/-- V29: not READY, group 1, channel 0, value 0. -/
theorem test_rdwin_not_ready :
    (after (.rdwin 1) State.reset).rdata = 0x00002000 := by decide

/-- V30: -1079100000. -/
theorem test_rdts_minimum :
    (after (.rdts false 0) (longest 1199 0)).rdata = 0xBFAE3DA0 ∧
    (after (.rdts true 0) (longest 1199 0)).rdata = 0xFFFFFFFF := by decide

/-- V30: 2879100000. -/
theorem test_rdts_maximum :
    (after (.rdts false 1199) (longest 0 2000)).rdata = 0xAB9B9460 ∧
    (after (.rdts true 1199) (longest 0 2000)).rdata = 0 ∧
    (after (.rdts false 1200) (longest 0 2000)).rdata = 0x6B49D200 := by decide

/-- R207. -/
theorem test_rdlive :
    (after .rdlive0 armed).rdata = 7 ∧ (after .rdlive1 armed).rdata = 400 ∧ (after .rdlive2 armed).rdata = 0 ∧
    (after .rdlive3 armed).rdata = 0 ∧ (after .rdlive4 armed).rdata = 0 ∧ (after .rdlive5 armed).rdata = 0 :=
  by decide

/-- R208. -/
theorem test_acklive :
    (after .acklive armed).liveAvail = false := by decide

/-- R172, V12. -/
theorem test_ackcap_ready :
    (after .ackcap held).astate = .run ∧ (after .ackcap held).buf = [] ∧ (after .ackcap held).bufSize = 6 ∧
    (after .ackcap held).tstate = .idle := by decide

/-- VA2: nothing is reset. -/
theorem test_ackcap_run :
    (after .ackcap armed).buf = armed.buf := by decide

/-- R221. -/
theorem test_reset_operation :
    after .reset { held with ill := true } = State.reset := by decide

/-- V34: 0 is returned and STATUS is 0x0000000C. -/
theorem test_illegal :
    (next (performWord 0x10000400 State.reset) State.reset).status = 0x0000000C ∧
    (next (performWord 0x10000400 held) held).rdata = 0 := by decide

/-- V25: after an accepted sample with skip 2 two are discarded and the third is accepted. -/
theorem test_throttle :
    (afterAll (samples [1, 2, 3, 4]) throttling).buf = [(0, 7), (1, 1), (2, 4), (4, 8), (5, 400)] := by decide

/-- V2. -/
theorem test_norm :
    [norm (-5) 20, norm (-20) 20, norm (-21) 20, norm 20 20, norm 2001 2] = [15, 0, 19, 0, 1] := by decide

/-- V7. -/
theorem test_prev_slot :
    [0, 1, 2].map (fun p => ({ armed with bufSize := 20, pivot := p } : State).prevSlot) = [18, 19, 0] := by decide

/-- V20, first row; V21, first of dly = 0. -/
theorem test_completion_counts :
    edgeCompletionCount rowV20 = 13 ∧ externalCompletionCount rowV21 = 6 := by decide

/-- R89. -/
theorem test_asm_text :
    asmText (.wrcfgThr 400) = "WRCFG thr, 400" ∧ asmText (.rdcfgSkip true) = "RDCFG.S skip" ∧
    asmText (.apply true) = "APPLY force" ∧ asmText (.rdts true 0) = "RDTS.H 0" := by decide

/-- R90. -/
theorem test_pseudo_expand :
    Pseudo.expand (.config [(.nCh, 2), (.nS, 4)]) = [.wrcfgNCh 2, .wrcfgNS 4, .apply false] ∧
    Pseudo.expand (.liveget 2) = [.rdlive0, .rdlive1, .acklive] ∧
    Pseudo.expand (.drain 2) = [.rdwin 0, .rdwin 1, .ackcap] := by decide

/-! ## Witnesses: for every statement with hypotheses, a concrete state and operands that meet them together -/

/-- Nine accepted samples in a buffer of six slots: the last six are held, the oldest at slot 3. -/
def filled : State :=
  { demo .rising 0 .capturing 2 with
    buf := [(0, 8), (1, 400), (2, 7), (3, 9), (4, 7)], pivot := 3, curChan := 1, start := 5 }

/-- The same with the window complete and held. -/
def filledHeld : State := { filled with start := 3, astate := .ready }

/-- A window held after one accepted sample, the other slots not yet written. -/
def heldEarly : State := { held with buf := [(0, 7)] }

/-- The states above meet the global invariants. -/
theorem witness_states_meet_the_invariant :
    GlobalInv State.reset ∧ GlobalInv armed ∧ GlobalInv armedDelayed ∧ GlobalInv armedFalling ∧
    GlobalInv armedExternal ∧ GlobalInv armedExternalDelayed ∧ GlobalInv delaying ∧ GlobalInv settling ∧
    GlobalInv unsettled ∧ GlobalInv closing ∧ GlobalInv held ∧ GlobalInv live ∧ GlobalInv throttled ∧
    GlobalInv throttling := by
  (repeat' apply And.intro) <;> decide

theorem witness_EncodeDecodeRoundTrip : decode 0x54000190 = some (.wrcfgThr 400) := by decide

theorem witness_WordsAreIllegalExactlyAsListed :
    legalWord 0x10000400 = false ∧ legalWord 0x100003FF = true :=
  by decide

theorem witness_StepPerformsTheDecodedOperation :
    decode (State.reset.presentWord 0x40000000).fetchWord = some .resume ∧
    decode 0x40000000 = some .resume ∧ decodeTableWord 32 0x40000000 = some .resume :=
  by decide

theorem witness_IllegalWordSetsOnlyIll :
    decode 0xC0000007 = none ∧ decode (armed.presentWord 0xC0000007).fetchWord = none :=
  by decide

theorem witness_QuietStepIsNop :
    armed.inputs = [] ∧
    ({ armed with inputs := [quietInstant, contention] } : State).inputs = [quietInstant, contention] ∧
    quietInstant.quiet = true :=
  by decide

theorem witness_ArbiterServesEveryEventOnce :
    ({ armed with inputs := [contention] } : State).inputs = [contention] ∧ contention.quiet = false ∧
    contention.words.length = 3 :=
  by decide

theorem witness_StepKeepsTheInvariant :
    ∃ t, GlobalInv armed ∧ step (armed.presentWord (encode (.sample 600))) = .next t ∧
    GlobalInv (armed.presentWord (encode (.sample 600))) ∧ t.tstate = .capturing :=
  ⟨_, by decide, rfl, by decide, by decide⟩

theorem witness_ReachableStatesMeetTheInvariant :
    Reachable (after .resume State.reset) :=
  .step (.present _ .reset) (rfl : step (State.reset.presentWord 0x40000000) = _)

theorem witness_StepKeepsTheBufferCanonical :
    ∃ t, armed.buf.wf = true ∧ step armed = .next t :=
  ⟨_, by decide, rfl⟩

/-- APPLY without a buffer reset, and with one for each of the three changes. -/
theorem witness_ApplyResetsAndReports :
    (clampRequest armed.staged).nCh = armed.cfg.nCh ∧ (clampRequest armed.staged).nS = armed.cfg.nS ∧
    (clampRequest armed.staged).res = armed.cfg.res ∧
    (clampRequest { armed.staged with nCh := 6 }).nCh ≠ armed.cfg.nCh ∧
    (clampRequest { armed.staged with nS := 4 }).nS ≠ armed.cfg.nS ∧
    (clampRequest { armed.staged with res := 1 }).res ≠ armed.cfg.res :=
  by decide

theorem witness_RdregReturnsTheRegister : 10 ≤ 15 ∧ 15 < 16 ∧ 10 < 16 := by decide

theorem witness_StatusWordLayout :
    held.astate = .ready ∧ armed.susp = false ∧ armed.astate = .run ∧ State.reset.susp = true :=
  by decide

theorem witness_LevelOutputsFollowTheState :
    held.capRdy = true ∧ held.samplingEn = false ∧ armed.capRdy = false ∧ armed.samplingEn = true :=
  by decide

theorem witness_RdwinReturnsTheWindowWord :
    GlobalInv held ∧ held.astate = .ready ∧ GlobalInv armed ∧ armed.astate = .run := by
  (repeat' apply And.intro) <;> decide

/-- Both signs of the timestamp, at the ends of its range. -/
theorem witness_RdtsReturnsTheTimestamp :
    GlobalInv (longest 1199 0) ∧ (longest 1199 0).timestamp 0 = -1079100000 ∧
    GlobalInv (longest 0 2000) ∧ (longest 0 2000).timestamp 1199 = 2879100000 := by
  (repeat' apply And.intro) <;> decide

theorem witness_RdliveReturnsTheChannel :
    GlobalInv armed ∧ 2 < 6 ∧ armed.cfg.nCh.toNat ≤ 2 ∧ 5 < 6 ∧ armed.cfg.nCh.toNat ≤ 5 :=
  by decide

theorem witness_ReadsChangeNoState :
    readsOnly (.rdwin 3) = true ∧ readsOnly (.rdts true 3) = true ∧ readsOnly .rdlive5 = true :=
  by decide

theorem witness_SampledSlotReadsBack :
    GlobalInv armed ∧ Accepting armed ∧ (7 : Imm24).toNat % armed.bufSize.toNat = armed.pivot.toNat ∧
    (∀ x ∈ [Instr.suspend, .sample 3, .resume, .sample 4], isApply x = false ∧ x ≠ .ackcap ∧ x ≠ .reset) ∧
    ([Instr.suspend, .sample 3, .resume, .sample 4].filter isSample).length < armed.bufSize.toNat :=
  by decide

/-- ACKCAP in RUN, APPLY without a buffer reset, a dropped SAMPLE and one into another slot. -/
theorem witness_SampledSlotReadsBack_keeps :
    keepsSlot 1 [.ackcap, .apply false, .suspend, .sample 3, .resume, .sample 4] (after (.sample 600) settling) = true ∧
    GlobalInv settling ∧ Accepting settling ∧ settling.pivot = 1 :=
  by decide

theorem witness_SuspendAndResumeWriteOneBit : armed.susp = false := by decide

theorem witness_AckcapResetsAReadyWindow :
    GlobalInv held ∧ held.astate = .ready ∧ armed.astate = .run :=
  by decide

theorem witness_SampleIsDroppedWhileDisabled :
    State.reset.susp = true ∧ held.susp = false ∧ held.astate = .ready :=
  by decide

theorem witness_ThrottleDiscardsThenAccepts_counting :
    throttled.susp = false ∧ throttled.astate = .run ∧ throttled.skipCnt ≠ 0 :=
  by decide

theorem witness_ThrottleDiscardsThenAccepts :
    ∃ t, Accepting throttling ∧ exec (.sample 1) throttling = .next t ∧ t.astate = .run ∧
    [(2 : Sample)].length ≤ throttling.cfg.skip.toNat ∧ [(2 : Sample), 3].length = throttling.cfg.skip.toNat :=
  ⟨_, by decide, rfl, by decide, by decide, by decide⟩

/-- In the middle of the buffer and at its end. -/
theorem witness_AcceptedSampleStoresAndAdvances :
    GlobalInv armed ∧ Accepting armed ∧ GlobalInv { armed with pivot := 5 } ∧
    Accepting { armed with pivot := 5 } := by
  (repeat' apply And.intro) <;> decide

/-- Every state of the trigger; the threshold itself fires, one below does not. -/
theorem witness_AcceptedSampleMovesTheTrigger :
    (GlobalInv settling ∧ Accepting settling ∧ settling.tstate = .idle) ∧
    (GlobalInv armed ∧ Accepting armed ∧ EdgeFireAt armed 500 ∧ ¬ EdgeFireAt armed 499) ∧
    (GlobalInv armedDelayed ∧ Accepting armedDelayed ∧ EdgeFireAt armedDelayed 1023) ∧
    (GlobalInv delaying ∧ Accepting delaying ∧ delaying.curChan = delaying.cfg.tch) ∧
    (GlobalInv closing ∧ Accepting closing ∧ closing.tstate = .capturing) := by
  (repeat' apply And.intro) <;> decide

theorem witness_ExttrigFiresOnlyWhenEligible :
    (GlobalInv armedExternal ∧ ExtFireAt armedExternal) ∧ (GlobalInv armedExternalDelayed ∧
    ExtFireAt armedExternalDelayed) ∧ ¬ ExtFireAt armed ∧ ¬ ExtFireAt held ∧ ¬ ExtFireAt State.reset := by
  (repeat' apply And.intro) <;> decide

theorem witness_NormIsTheFloorModulus :
    1 ≤ 20 ∧ 15 < 20 ∧ ((20 : Nat) : Int) ∣ ((15 : Nat) : Int) - (-5) :=
  by decide

theorem witness_StartFormulaWorkedValues : 1 ≤ 1 ∧ startOf 5 7 1 3 2 6 = 0 := by decide

theorem witness_EdgeConditions :
    (400 : Sample).toNat < (500 : Sample).toNat ∧ (500 : Sample).toNat < (600 : Sample).toNat ∧
    (1023 : Sample).toNat = 1023 :=
  by decide

theorem witness_OnlySuspendResumeResetWriteSusp :
    ∃ t u, exec .suspend armed = .next t ∧ exec .nop armed = .next u ∧ decode 0x00000001 = none ∧
    samplingContext .exttrig = true ∧ State.reset.susp = true :=
  ⟨_, _, rfl, rfl, by decide, by decide, by decide⟩

theorem witness_IllIsStickyUntilReset :
    ∃ t u, exec .reset { armed with ill := true } = .next t ∧ decode 0x00000001 = none ∧
    performWord 0x00000001 armed = .next u ∧ u.ill = true :=
  ⟨_, _, rfl, by decide, rfl, by decide⟩

theorem witness_OnlyApplyAndResetWriteTheConfiguration :
    ∃ t, exec (.sample 600) armed = .next t ∧ isApply (.sample 600) = false ∧ (.sample 600 : Instr) ≠ .reset ∧
    isWrcfg (.sample 600) = false ∧ (.sample 600 : Instr) ≠ .ackcap :=
  ⟨_, rfl, by decide, by decide, by decide, by decide⟩

theorem witness_SamplingContextTouchesOnlyItsOwn :
    ∃ t, samplingContext (.sample 600) = true ∧ GlobalInv armed ∧ exec (.sample 600) armed = .next t ∧
    t.astate = .run :=
  ⟨_, by decide, by decide, rfl, by decide⟩

theorem witness_OnlyTheStatedOperationsMoveTheTrigger :
    ∃ t, exec .ackcap armed = .next t ∧ samplingContext .ackcap = false ∧ isApply .ackcap = false ∧
    Instr.ackcap ≠ .reset ∧ armed.astate = .run :=
  ⟨_, rfl, by decide, by decide, by decide, by decide⟩

theorem witness_OnlyReconfigurationAbandonsACapture :
    ∃ t u, exec (.sample 1) delaying = .next t ∧ delaying.tstate = .delay ∧ exec .exttrig closing = .next u ∧
    closing.tstate = .capturing ∧ isApply (.sample 1) = false ∧ (.sample 1 : Instr) ≠ .reset ∧
    (.sample 1 : Instr) ≠ .ackcap :=
  ⟨_, _, rfl, by decide, rfl, by decide, by decide, by decide, by decide⟩

theorem witness_LiveModeNeverCompletes :
    GlobalInv live ∧ live.cfg.mode = .live ∧
    (∀ i ∈ [Instr.sample 600, .exttrig, .ackcap, .wrcfgMode 2], isApply i = false ∧ i ≠ .reset) :=
  by decide

theorem witness_SuspensionGivesOneSnapshot :
    State.reset.susp = true ∧ held.astate = .ready ∧
    (∀ t ∈ ({ held with inputs := [contention] } : State).inputs, ∀ w, t.host = some w →
      ∃ i, decode w = some i ∧ readsOnly i = true) :=
  ⟨rfl, rfl, fun _ ht _ hw => by
    obtain rfl := List.mem_singleton.mp ht
    cases hw
    exact ⟨.rdregStatus, by decide, rfl⟩⟩

theorem witness_SettlingSuppressesTheTrigger :
    (GlobalInv unsettled ∧ unsettled.tstate = .idle ∧ unsettled.supCnt = 0) ∧
    (∀ i ∈ [Instr.sample 1, .exttrig, .sample 2], samplingContext i = true) ∧
    ([Instr.sample 1, .exttrig, .sample 2].filter isSample).length + unsettled.curChan.toNat <
      (unsettled.cfg.pre.toNat + 1) * unsettled.cfg.nCh.toNat ∧
    Accepting unsettled ∧ unsettled.cfg.skip = 0 ∧ [(1 : Sample), 2, 3].length + unsettled.curChan.toNat =
      (unsettled.cfg.pre.toNat + 1) * unsettled.cfg.nCh.toNat :=
  by decide

theorem witness_BufferHoldsTheRecentHistory :
    ∃ t, GlobalInv filled ∧ HoldsHistory filled [9, 400, 6, 9, 7, 0, 8, 400, 7] ∧
    exec (.sample 600) filled = .next t ∧
    GlobalInv State.reset ∧ State.reset.pivot = 0 :=
  ⟨_, by decide, by decide, rfl, by decide, by decide⟩

/-- A full window, and one with slots not yet written. -/
theorem witness_ReadyWindowIsChronological :
    GlobalInv filledHeld ∧ filledHeld.astate = .ready ∧ HoldsHistory filledHeld [9, 400, 6, 9, 7, 0, 8, 400, 7] ∧
    (5 : Imm24).toNat < filledHeld.bufSize.toNat ∧ GlobalInv heldEarly ∧ heldEarly.astate = .ready ∧
    HoldsHistory heldEarly [7] ∧ 1 + (4 : Imm24).toNat < heldEarly.bufSize.toNat := by
  (repeat' apply And.intro) <;> decide

/-- Without and with a delay; K by R174: norm(-4, 6) = 2, and 4 + norm(2 - 1 - 2 - 1 - 4, 6) = 4. -/
theorem witness_EdgeCaptureCompletesAfterTheStatedCount :
    (GlobalInv armed ∧ Accepting armed ∧ armed.cfg.skip = 0 ∧ EdgeFireAt armed 600 ∧
      edgeCompletionCount armed = 2) ∧
    (GlobalInv armedDelayed ∧ Accepting armedDelayed ∧ armedDelayed.cfg.skip = 0 ∧ EdgeFireAt armedDelayed 600 ∧
      edgeCompletionCount armedDelayed = 4) := by
  (repeat' apply And.intro) <;> decide

/-- Without and with a delay; K by R174: 1 + norm(-1 - 2 - 1, 6) = 3, and E = 1, 1 + norm(1 - 1 - 2 - 1, 6) = 4. -/
theorem witness_ExternalCaptureCompletesAfterTheStatedCount :
    (GlobalInv armedExternal ∧ Accepting armedExternal ∧ armedExternal.cfg.skip = 0 ∧ ExtFireAt armedExternal ∧
      externalCompletionCount armedExternal = 3) ∧
    (GlobalInv armedExternalDelayed ∧ Accepting armedExternalDelayed ∧ armedExternalDelayed.cfg.skip = 0 ∧
      ExtFireAt armedExternalDelayed ∧ externalCompletionCount armedExternalDelayed = 4) := by
  (repeat' apply And.intro) <;> decide

/-- E = 1 + (2 - 0 - 1) * 2 = 3, and 3 + norm(0 - 1 - 3, 6) = 5. -/
theorem witness_OutstandingCaptureCountsDown :
    ∃ t u, exec (.sample 1) delaying = .next t ∧ exec .exttrig closing = .next u ∧
    (GlobalInv delaying ∧ delaying.tstate = .delay ∧ Accepting delaying ∧ samplesLeft delaying = 5) ∧
    (GlobalInv closing ∧ closing.tstate = .capturing ∧ Accepting closing ∧ samplesLeft closing = 1) ∧
    (GlobalInv throttledCapture ∧ throttledCapture.tstate = .capturing ∧ ¬ Accepting throttledCapture) ∧
    (GlobalInv held ∧ held.tstate = .capturing ∧ samplesLeft held = 0) ∧ EdgeFireAt armedDelayed 600 ∧
    ExtFireAt armedExternalDelayed :=
  ⟨_, _, rfl, rfl, by decide, by decide, by decide, by decide, by decide, by decide⟩

theorem witness_EdgeCaptureHoldsTheFiringSample :
    GlobalInv armed ∧ Accepting armed ∧ armed.cfg.skip = 0 ∧ armed.cfg.dly = 0 ∧ EdgeFireAt armed 600 ∧
    [(1 : Sample), 2].length = edgeCompletionCount armed :=
  by decide

theorem witness_DrainReturnsToSettling : GlobalInv held ∧ held.astate = .ready := by decide

end Sys2Proof.Tests
end

/-! PROOFS. What the arbiter takes from an instant (R5, R69, R236): it serves the first presenting port of its order,
and one arbitration takes that port's word off the words the instant presents. -/

namespace Sys2Proof.Machine

open Sys2Proof

@[simp] theorem Instant.isSome_word_sample (t : Instant) : (t.word .sample).isSome = t.sample.isSome := by
  simp [Instant.word]

@[simp] theorem Instant.isSome_word_trig (t : Instant) : (t.word .trig).isSome = t.trig := by
  cases h : t.trig <;> simp [Instant.word, h]

@[simp] theorem Instant.isSome_word_host (t : Instant) : (t.word .host).isSome = t.host.isSome := rfl

/-- Every order serves every port. -/
theorem mem_portsInOrder (o : ArbOrder) (p : Port) : p ∈ portsInOrder o := by
  cases o <;> cases p <;> decide

/-- Where one port alone meets a condition, every order finds that port. -/
theorem find_portsInOrder_of_unique (o : ArbOrder) {f : Port → Bool} {p : Port} (hp : f p = true)
    (huniq : ∀ q, f q = true → q = p) : (portsInOrder o).find? f = some p := by
  cases hfind : (portsInOrder o).find? f with
  | none => exact absurd hp (List.find?_eq_none.mp hfind p (mem_portsInOrder o p))
  | some q => rw [huniq q (List.find?_some hfind)]

/-- The port chosen is the first of the order that presents an event, contended or not. -/
theorem Instant.choose_eq_find (t : Instant) (seq : Nat) :
    t.choose seq = (portsInOrder (Config.arbOrder seq)).find? fun p => (t.word p).isSome := by
  unfold Instant.choose
  split
  case h_1 hs ht hh =>
    refine (List.find?_eq_none.mpr fun p _ => ?_).symm
    cases p <;> simp [hs, ht, hh]
  case h_2 hs ht hh =>
    refine (find_portsInOrder_of_unique _ (by simp [hs]) fun q => ?_).symm
    cases q <;> simp [ht, hh]
  case h_3 hs ht hh =>
    refine (find_portsInOrder_of_unique _ (by simp [ht]) fun q => ?_).symm
    cases q <;> simp [hs, hh]
  case h_4 hs ht hh =>
    refine (find_portsInOrder_of_unique _ (by simp [hh]) fun q => ?_).symm
    cases q <;> simp [hs, ht]
  all_goals rfl

/-- An instant is quiet when it presents no word. -/
theorem Instant.quiet_iff_words_eq_nil (t : Instant) : t.quiet = true ↔ t.words = [] := by
  have hnone (p : Port) : t.word p = none ↔ (t.word p).isSome = false := by simp
  simp [Instant.quiet, Instant.words, List.filterMap_eq_nil_iff, hnone, and_assoc, and_left_comm]

/-- Where an event is presented, the arbiter chooses a port that presents one. -/
theorem Instant.exists_choose_word {t : Instant} (seq : Nat) (h : t.quiet = false) :
    ∃ p w, t.choose seq = some p ∧ t.word p = some w := by
  rw [Instant.choose_eq_find]
  cases hfind : (portsInOrder (Config.arbOrder seq)).find? fun p => (t.word p).isSome with
  | none =>
    have hsilent (p : Port) : t.word p = none := by
      simpa using List.find?_eq_none.mp hfind p (mem_portsInOrder _ p)
    have hquiet : t.quiet = true := t.quiet_iff_words_eq_nil.mpr (by simp [Instant.words, hsilent])
    simp [hquiet] at h
  | some p =>
    have hpresents : (t.word p).isSome = true := List.find?_some (p := fun p => (t.word p).isSome) hfind
    obtain ⟨w, hw⟩ := Option.isSome_iff_exists.mp hpresents
    exact ⟨p, w, rfl, hw⟩

/-- Serving a port takes its word, once, off the words of the instant. -/
theorem Instant.words_perm_cons_serve {t : Instant} {p : Port} {w : Word} (h : t.word p = some w) :
    t.words.Perm (w :: (t.serve p).words) := by
  have hsplit (l r : List (Option Word)) :
      ((l ++ some w :: r).filterMap id).Perm (w :: (l ++ none :: r).filterMap id) := by
    simp [List.perm_middle]
  rw [Instant.words]
  cases p with
  | trig =>
    rw [h]
    exact hsplit [] [t.word .sample, t.word .host]
  | sample =>
    rw [h]
    exact hsplit [t.word .trig] [t.word .host]
  | host =>
    rw [h]
    exact hsplit [t.word .trig, t.word .sample] []

/-- What the ports still present from an instant on: the instant is past once it is quiet (log 2). -/
def Instant.pending (t : Instant) (ts : List Instant) : List Instant := if t.quiet = true then ts else t :: ts

theorem State.fetchWord_of_choose {s : State} {t : Instant} {ts : List Instant} {p : Port} {w : Word}
    (hs : s.inputs = t :: ts) (hp : t.choose s.arbSeq = some p) (hw : t.word p = some w) : s.fetchWord = w := by
  simp [State.fetchWord, hs, hp, hw]

theorem State.afterFetch_of_choose {s : State} {t : Instant} {ts : List Instant} {p : Port}
    (hs : s.inputs = t :: ts) (hp : t.choose s.arbSeq = some p) :
    s.afterFetch = (s.setInputs ((t.serve p).pending ts)).setArbSeq
      (if t.contended = true then s.arbSeq + 1 else s.arbSeq) := by
  simp only [State.afterFetch, hs, hp]
  split <;> rfl

/-- As many arbitrations as an instant still presents words take exactly those words, and leave the instants after
it. -/
theorem fetchMany_pending {ts : List Instant} (n : Nat) (s : State) (t : Instant) (hn : t.words.length = n)
    (hs : s.inputs = t.pending ts) :
    (fetchMany n s).Perm t.words ∧ ∃ k, afterMany n s = { s with inputs := ts, arbSeq := k } := by
  induction n generalizing s t with
  | zero =>
    have hwords : t.words = [] := List.length_eq_zero_iff.mp hn
    have hpast : s.inputs = ts := by rw [hs, Instant.pending, if_pos (t.quiet_iff_words_eq_nil.mpr hwords)]
    subst hpast
    exact ⟨by rw [hwords]; exact .nil, s.arbSeq, rfl⟩
  | succ n ih =>
    have hquiet : t.quiet = false := by
      rw [← Bool.not_eq_true, t.quiet_iff_words_eq_nil]
      intro hwords
      simp [hwords] at hn
    have hhead : s.inputs = t :: ts := by simpa [Instant.pending, hquiet] using hs
    obtain ⟨p, w, hp, hw⟩ := Instant.exists_choose_word s.arbSeq hquiet
    have hperm := Instant.words_perm_cons_serve hw
    have hlen : (t.serve p).words.length = n := by simpa [hn] using hperm.length_eq.symm
    have hafter := State.afterFetch_of_choose hhead hp
    obtain ⟨hrest, k, hend⟩ := ih s.afterFetch (t.serve p) hlen (by simp [hafter])
    constructor
    · rw [fetchMany, State.fetchWord_of_choose hhead hp hw]
      exact (hrest.cons w).trans hperm.symm
    · refine ⟨k, ?_⟩
      rw [afterMany, hend, hafter]
      rfl

end Sys2Proof.Machine

/-! PROOFS. What a step performs (R4, R68), that every operation answers a next state (R13, R230), and what the level
outputs say (R5). -/

namespace Sys2Proof.Machine

open Sys2Proof

@[simp] theorem State.fetchWord_presentWord (s : State) (w : Word) : (s.presentWord w).fetchWord = w := rfl

/-- A word presented alone on the host port is past once it is taken, and nothing was arbitrated. -/
@[simp] theorem State.afterFetch_presentWord (s : State) (w : Word) : (s.presentWord w).afterFetch = s := rfl

theorem performWord_of_decode {w : Word} {i : Instr} (s : State) (h : decode w = some i) :
    performWord w s = exec i s := by
  simp [performWord, h]

theorem performWord_of_illegal {w : Word} (s : State) (h : decode w = none) :
    performWord w s = execIllegal s := by
  simp [performWord, h]

/-- Every operation ends by setting its result (R13, R88). -/
theorem exec_ends_done (i : Instr) (s : State) : ∃ t r, exec i s = done t r := by
  cases i <;> exact ⟨_, _, rfl⟩

theorem exec_answers_next (i : Instr) (s : State) : ∃ t, exec i s = .next t := by
  obtain ⟨t, r, h⟩ := exec_ends_done i s
  exact ⟨t.setRdata r, h⟩

theorem performWord_answers_next (w : Word) (s : State) : ∃ t, performWord w s = .next t := by
  cases h : decode w with
  | some i =>
    rw [performWord_of_decode s h]
    exact exec_answers_next i s
  | none =>
    rw [performWord_of_illegal s h]
    exact ⟨s.recordIllegal.setRdata 0, rfl⟩

theorem State.capRdy_iff (s : State) : s.capRdy = true ↔ s.astate = .ready := decide_eq_true_iff

theorem State.samplingEn_iff (s : State) : s.samplingEn = true ↔ s.susp = false ∧ s.astate = .run := by
  simp [State.samplingEn]

end Sys2Proof.Machine

/-! PROOFS. The statements about the scope of the engine: arithmetic, ports, step and outputs. -/

namespace Sys2Proof.Proofs

open Sys2Proof Sys2Proof.Machine

/-- A number below the modulus that differs from `x` by a multiple of it is `norm x B`. -/
theorem eq_norm_of_lt_of_dvd {x : Int} {B r : Nat} (hr : r < B) (hdvd : (B : Int) ∣ (r : Int) - x) :
    r = norm x B := by
  have hmod : x % (B : Int) = (r : Int) % (B : Int) := Int.modEq_iff_dvd.mpr hdvd
  rw [norm_congr hmod, norm_natCast, Nat.mod_eq_of_lt hr]

/-- Settles O11: the arbiter's state is followed by what the instant still presents. -/
theorem arbiterServesEveryEventOnce : Obligations.ArbiterServesEveryEventOnce := by
  intro s t ts hs hquiet
  exact fetchMany_pending t.words.length s t rfl (by simp [Instant.pending, hquiet, hs])

/-- Settles O41: `norm x B` is the floor modulus, and a residue below `B` is its own modulus. -/
theorem normIsTheFloorModulus : Obligations.NormIsTheFloorModulus := by
  refine ⟨fun x B hB => ⟨norm_lt x hB, ?_, fun r => eq_norm_of_lt_of_dvd⟩, by decide⟩
  rw [norm_cast_eq x hB]
  exact Int.dvd_emod_sub_self

/-- Settles O7: what is fetched from a presented word is the word, and the state after it is the state itself. -/
theorem stepPerformsTheDecodedOperation : Obligations.StepPerformsTheDecodedOperation := by
  have hpresented (s : State) (w : Word) (i : Instr) (h : decode w = some i) : step (s.presentWord w) = exec i s := by
    rw [step, State.fetchWord_presentWord, State.afterFetch_presentWord, performWord_of_decode s h]
  exact ⟨fun s i h => performWord_of_decode s.afterFetch h, hpresented,
    fun s nbits w i h => hpresented s (tableWord nbits w) i h⟩

/-- Settles O9: a word is an operation or ILLEGAL, and both end by setting their result. -/
theorem everyStepAnswersNext : Obligations.EveryStepAnswersNext :=
  ⟨fun s => performWord_answers_next s.fetchWord s.afterFetch, exec_answers_next, performWord_answers_next⟩

/-- Settles O25: three outputs are fields of the state, the other two tests of its mode. -/
theorem levelOutputsFollowTheState : Obligations.LevelOutputsFollowTheState :=
  fun s => ⟨s.capRdy_iff, rfl, rfl, s.samplingEn_iff, rfl⟩

end Sys2Proof.Proofs

/-! PROOFS. What each operation does to the state, its result word apart, and what a step does (R4, R68): later proofs
split on these cases and unfold no operation. -/

namespace Sys2Proof.Machine

open Sys2Proof

/-- What an operation does to the state, its result word apart, one rule per case of its meaning; `exec_effect` says
that `exec` does nothing else. -/
inductive Effect (s : State) : Instr → State → Prop where
  | nop : Effect s .nop s
  | read {i : Instr} (hread : readsOnly i = true) : Effect s i s
  /-- the gate drops the sample (R163) -/
  | sampleDropped (v : Sample) (hgate : s.susp = true ∨ s.astate = .ready) : Effect s (.sample v) s
  /-- the throttle discards the sample (R164) -/
  | sampleThrottled (v : Sample) (hsusp : s.susp = false) (hrun : s.astate = .run) (hskip : s.skipCnt ≠ 0) :
      Effect s (.sample v) (s.setSkipCnt (s.skipCnt - 1))
  | sampleAccepted (v : Sample) (haccept : Accepting s) : Effect s (.sample v) (s.accept v)
  | exttrigFired (hfire : s.extTrigAccepted = true) : Effect s .exttrig s.fire
  | exttrigDropped (hdrop : s.extTrigAccepted = false) : Effect s .exttrig s
  | suspend : Effect s .suspend (s.setSusp true)
  | resume : Effect s .resume (s.setSusp false)
  | wrcfg {i : Instr} (hwrcfg : isWrcfg i = true) (f : CfgField) (imm : Imm24) :
      Effect s i (s.setStaged (s.staged.set f imm))
  /-- APPLY with a buffer reset: all three resets follow the activation (R182) -/
  | applyCleared (fbr : Bool) (hclear : s.bufResetNeeded fbr (clampRequest s.staged) = true) :
      Effect s (.apply fbr) (s.activate (clampRequest s.staged)).captureReset
  | applyKept (fbr : Bool) (hkeep : s.bufResetNeeded fbr (clampRequest s.staged) = false) :
      Effect s (.apply fbr) (s.activate (clampRequest s.staged)).trigReset.acqReset
  | acklive : Effect s .acklive (s.setLiveAvail false)
  | ackcapReady (hready : s.astate = .ready) : Effect s .ackcap s.captureReset
  | ackcapRun (hrun : s.astate = .run) : Effect s .ackcap s
  | reset : Effect s .reset s.resetEngine

theorem Effect.of_sample (s : State) (v : Sample) : Effect s (.sample v) (s.sample v) := by
  rcases s.sample_cases v with ⟨hgate, h⟩ | ⟨hsusp, hrun, hskip, h⟩ | ⟨hsusp, hrun, hskip, h⟩ <;> rw [h]
  · exact .sampleDropped v hgate
  · exact .sampleThrottled v hsusp hrun hskip
  · exact .sampleAccepted v ⟨hsusp, hrun, hskip⟩

theorem Effect.of_exttrig (s : State) : Effect s .exttrig (if s.extTrigAccepted = true then s.fire else s) := by
  cases h : s.extTrigAccepted
  · exact .exttrigDropped h
  · exact .exttrigFired h

theorem Effect.of_apply (s : State) (fbr : Bool) :
    Effect s (.apply fbr) (s.applyConfig fbr (clampRequest s.staged)) := by
  unfold State.applyConfig
  cases h : s.bufResetNeeded fbr (clampRequest s.staged)
  · exact .applyKept fbr h
  · exact .applyCleared fbr h

theorem Effect.of_ackcap (s : State) : Effect s .ackcap (if s.astate = .ready then s.captureReset else s) := by
  cases h : s.astate
  · exact .ackcapRun h
  · exact .ackcapReady h

/-- Every operation has one of the effects, and then sets its result (R13). -/
theorem exec_eq_done_effect (i : Instr) (s : State) : ∃ u r, exec i s = done u r ∧ Effect s i u := by
  cases i with
  | nop => exact ⟨s, _, rfl, .nop⟩
  | sample v => exact ⟨_, _, rfl, .of_sample s v⟩
  | exttrig => exact ⟨_, _, rfl, .of_exttrig s⟩
  | suspend => exact ⟨_, _, rfl, .suspend⟩
  | resume => exact ⟨_, _, rfl, .resume⟩
  | apply fbr => exact ⟨_, _, rfl, .of_apply s fbr⟩
  | acklive => exact ⟨_, _, rfl, .acklive⟩
  | ackcap => exact ⟨_, _, rfl, .of_ackcap s⟩
  | reset => exact ⟨_, _, rfl, .reset⟩
  | wrcfgNCh | wrcfgPeriod | wrcfgMode | wrcfgTch | wrcfgThr | wrcfgPre | wrcfgDly | wrcfgNS | wrcfgRes | wrcfgSkip =>
    exact ⟨_, _, rfl, .wrcfg rfl _ _⟩
  | _ => exact ⟨s, _, rfl, .read rfl⟩

theorem exec_effect {i : Instr} {s t : State} (h : exec i s = .next t) : ∃ u r, Effect s i u ∧ t = u.setRdata r := by
  obtain ⟨u, r, hdone, heff⟩ := exec_eq_done_effect i s
  exact ⟨u, r, heff, done_eq_next (hdone ▸ h)⟩

theorem performWord_illegal_next {w : Word} {s t : State} (hw : decode w = none) (h : performWord w s = .next t) :
    t = s.recordIllegal.setRdata 0 := by
  rw [performWord_of_illegal s hw] at h
  exact done_eq_next h

/-- Taking a word from the ports changes the model's own port fields only (log 1, log 2). -/
theorem State.afterFetch_eq (s : State) : ∃ ins k, s.afterFetch = (s.setInputs ins).setArbSeq k := by
  cases hs : s.inputs with
  | nil =>
    have hkept : s.afterFetch = s := by simp only [State.afterFetch, hs]
    exact ⟨s.inputs, s.arbSeq, hkept⟩
  | cons t ts =>
    cases hp : t.choose s.arbSeq with
    | none => exact ⟨ts, s.arbSeq, by simp only [State.afterFetch, hs, hp]; rfl⟩
    | some p => exact ⟨_, _, State.afterFetch_of_choose hs hp⟩

/-- A property is kept by every step when every effect keeps it, and when it is kept by what a step does besides: the
port fields, the record of an ILLEGAL word, the result word (R4, R223). -/
theorem step_keeps {P : State → Prop} (hports : ∀ s ins k, P s → P ((s.setInputs ins).setArbSeq k))
    (hillegal : ∀ s, P s → P s.recordIllegal) (hrdata : ∀ s r, P s → P (s.setRdata r))
    (heffect : ∀ s i u, P s → Effect s i u → P u) {s t : State} (hs : P s) (h : step s = .next t) : P t := by
  obtain ⟨ins, k, hfetch⟩ := s.afterFetch_eq
  have hs' : P s.afterFetch := hfetch ▸ hports s ins k hs
  rw [step] at h
  cases hw : decode s.fetchWord with
  | none =>
    rw [performWord_illegal_next hw h]
    exact hrdata _ 0 (hillegal _ hs')
  | some i =>
    rw [performWord_of_decode s.afterFetch hw] at h
    obtain ⟨u, r, heff, rfl⟩ := exec_effect h
    exact hrdata u r (heffect _ i u hs' heff)

end Sys2Proof.Machine

/-! PROOFS. What the clamp of a request computes (R183), and that its answer is in range (R23). -/

namespace Sys2Proof.Machine

open Sys2Proof

section Clamp

variable (r : Staged)

theorem clampRequest_nCh_toNat : (clampRequest r).nCh.toNat = clamp r.nCh.toNat 1 6 := by
  have hnCh := clamp_bounds r.nCh.toNat 1 6 (by omega)
  exact Nat.mod_eq_of_lt (by simp only [MAXCH_eq]; omega)

theorem clampRequest_nCh_bounds : 1 ≤ (clampRequest r).nCh.toNat ∧ (clampRequest r).nCh.toNat ≤ 6 := by
  rw [clampRequest_nCh_toNat]
  exact clamp_bounds r.nCh.toNat 1 6 (by omega)

/-- The upper bound the clamp gives `nS` is above the lower one, and it fits the register. -/
theorem capacity_div_nCh_bounds :
    2 ≤ 1200 / (clampRequest r).nCh.toNat ∧ 1200 / (clampRequest r).nCh.toNat ≤ 1200 := by
  obtain ⟨hlow, hhigh⟩ := clampRequest_nCh_bounds r
  exact ⟨(Nat.le_div_iff_mul_le hlow).mpr (by omega), Nat.div_le_self _ _⟩

theorem clampRequest_nS_toNat :
    (clampRequest r).nS.toNat = clamp r.nS.toNat 2 (1200 / (clampRequest r).nCh.toNat) := by
  obtain ⟨hlow, hhigh⟩ := capacity_div_nCh_bounds r
  have hnS := clamp_bounds r.nS.toNat 2 _ hlow
  rw [clampRequest_nCh_toNat] at *
  exact Nat.mod_eq_of_lt (show clamp _ 2 (1200 / clamp _ 1 6) < 2048 by omega)

theorem clampRequest_nS_bounds :
    2 ≤ (clampRequest r).nS.toNat ∧ (clampRequest r).nS.toNat ≤ 1200 / (clampRequest r).nCh.toNat := by
  rw [clampRequest_nS_toNat]
  exact clamp_bounds r.nS.toNat 2 _ (capacity_div_nCh_bounds r).1

theorem clampRequest_period_toNat : (clampRequest r).period.toNat = clamp r.period.toNat 1 900000 := by
  have hperiod := clamp_bounds r.period.toNat 1 900000 (by omega)
  exact Nat.mod_eq_of_lt (by simp only [MAXPER_eq]; omega)

theorem clampRequest_tch_toNat : (clampRequest r).tch.toNat = min r.tch.toNat ((clampRequest r).nCh.toNat - 1) := by
  have hnCh := clampRequest_nCh_bounds r
  rw [clampRequest_nCh_toNat] at *
  exact Nat.mod_eq_of_lt (show min _ (clamp _ 1 6 - 1) < 8 by omega)

theorem clampRequest_pre_toNat : (clampRequest r).pre.toNat = min r.pre.toNat ((clampRequest r).nS.toNat - 1) := by
  have hnS := (clampRequest r).nS.isLt
  rw [clampRequest_nS_toNat, clampRequest_nCh_toNat] at *
  exact Nat.mod_eq_of_lt (show min _ (clamp _ 2 (1200 / clamp _ 1 6) - 1) < 2048 by omega)

theorem clampRequest_dly_toNat : (clampRequest r).dly.toNat = min r.dly.toNat 2000 :=
  Nat.mod_eq_of_lt (show min _ 2000 < 2048 by omega)

theorem TrigMode.code_toNat_le (m : TrigMode) : m.code.toNat ≤ 4 := by
  cases m <;> decide

/-- The clamp answers a configuration in range, whatever the request (R23, R183); three fields are in range by their
width. -/
theorem cfgInv_clampRequest : CfgInv (clampRequest r) := by
  have hnCh := clampRequest_nCh_bounds r
  have hnS := clampRequest_nS_bounds r
  have hfit := (Nat.mul_le_mul_left _ hnS.2).trans (Nat.mul_div_le 1200 (clampRequest r).nCh.toNat)
  have htch := clampRequest_tch_toNat r
  have hpre := clampRequest_pre_toNat r
  have hdly := clampRequest_dly_toNat r
  have hperiod := clamp_bounds r.period.toNat 1 900000 (by omega)
  rw [← clampRequest_period_toNat] at hperiod
  have hthr := (clampRequest r).thr.isLt
  have hres := (clampRequest r).res.isLt
  have hskip := (clampRequest r).skip.isLt
  exact ⟨hnCh, hnS.1, hfit, by omega, by omega, by omega, by omega, hperiod, TrigMode.code_toNat_le _, by omega,
    by omega⟩

end Clamp

end Sys2Proof.Machine

/-! PROOFS. The global invariants (R23 to R44) through each shared operation, each effect and each step. -/

namespace Sys2Proof.Machine

open Sys2Proof

/-- `BufReset()` sets up the buffer of whatever configuration is active (R116). -/
theorem bufInv_bufReset {s : State} (hcfg : CfgInv s.cfg) : BufInv s.bufReset := by
  obtain ⟨⟨hnCh, -⟩, hnS, hfit, -⟩ := hcfg
  have hsize : s.bufReset.bufSize.toNat = s.cfg.nCh.toNat * s.cfg.nS.toNat := by
    rw [State.bufReset_bufSize]
    exact Nat.mod_eq_of_lt (by omega)
  have hpos : 0 < s.cfg.nCh.toNat * s.cfg.nS.toNat := Nat.mul_pos hnCh (by omega)
  refine ⟨by rw [State.bufReset_buf]; exact Memory.zero_wf, hsize, ?_, ?_, ?_, ?_, ?_⟩
  · simp [Memory.zero]
  · rwa [State.bufReset_pivot, hsize]
  · rwa [State.bufReset_curChan, State.bufReset_cfg]
  · simp
  · simp

/-- After `TrigReset()` and `AcqReset()` the trigger settles anew and nothing is held (R131, R161), so only the
configuration and the buffer are left to be in order. -/
theorem globalInv_restart {s : State} (hcfg : CfgInv s.cfg) (hbuf : BufInv s) : GlobalInv s.trigReset.acqReset := by
  have hpos : 0 < s.bufSize.toNat := by
    obtain ⟨-, -, -, hpivot, -⟩ := hbuf
    omega
  have htrig : TrigInv s.trigReset.acqReset := by simp [TrigInv, hpos]
  exact ⟨hcfg, by simpa [BufInv] using hbuf, htrig, by simp [AcqInv]⟩

theorem globalInv_captureReset {s : State} (hcfg : CfgInv s.cfg) : GlobalInv s.captureReset :=
  globalInv_restart hcfg (bufInv_bufReset hcfg)

/-- An activation that changes neither `nCh` nor `nS` leaves the buffer in order (R185). -/
theorem bufInv_activate {s : State} {new : Active} (hbuf : BufInv s) (hnCh : new.nCh = s.cfg.nCh)
    (hnS : new.nS = s.cfg.nS) : BufInv (s.activate new) := by
  simpa [BufInv, hnCh, hnS] using hbuf

theorem State.eq_of_not_bufResetNeeded {s : State} {fbr : Bool} {new : Active}
    (h : s.bufResetNeeded fbr new = false) : new.nCh = s.cfg.nCh ∧ new.nS = s.cfg.nS := by
  simp only [State.bufResetNeeded, Bool.or_eq_false_iff, bne_eq_false_iff_eq] at h
  obtain ⟨⟨⟨-, hnCh⟩, hnS⟩, -⟩ := h
  exact ⟨hnCh, hnS⟩

/-- The trigger's invariant of an outstanding capture: the trigger waits out the delay or collects (R31, R144). -/
theorem trigInv_outstanding {t : State} (hmode : t.cfg.mode ≠ .live) (hstart : t.start.toNat < t.bufSize.toNat)
    (hdly : t.dlyCnt.toNat ≤ t.cfg.dly.toNat) (hsup : t.supCnt.toNat = t.cfg.pre.toNat + 1)
    (hstate : t.tstate = .capturing ∨ t.tstate = .delay ∧ t.dlyCnt.toNat < t.cfg.dly.toNat) : TrigInv t := by
  rcases hstate with h | ⟨h, hlt⟩
  · simp [TrigInv, h, hmode, hstart, hdly, hsup]
  · simp [TrigInv, h, hmode, hstart, hdly, hsup, hlt, Nat.zero_lt_of_lt hlt, Nat.succ_le_iff]

/-- `Fire()` from ARMED opens a window whose start lies in the buffer (R136). -/
theorem trigInv_fire {s : State} (htrig : TrigInv s) (harmed : s.tstate = .armed) (hmode : s.cfg.mode ≠ .live) :
    TrigInv s.fire := by
  obtain ⟨-, hstart, -, -, hsup, -, -⟩ := htrig
  refine trigInv_outstanding (by simpa using hmode) ?_ (by simp) (by simpa using hsup (by simp [harmed])) ?_
  · have hlt (x : Int) := norm_lt x (show 0 < s.bufSize.toNat by omega)
    rw [State.fire_start, State.fire_bufSize, startOf, BitVec.toNat_ofNat,
      Nat.mod_eq_of_lt ((hlt _).trans s.bufSize.isLt)]
    exact hlt _
  · rw [State.fire_tstate, State.fire_dlyCnt, State.fire_cfg]
    split
    · exact .inl rfl
    · rename_i hdly
      exact .inr ⟨rfl, by bv_omega⟩

/-- `DelayStep()` counts towards `dly`, and is in CAPTURING when it gets there (R138). -/
theorem trigInv_delayStep {s : State} (htrig : TrigInv s) (hdelay : s.tstate = .delay) : TrigInv s.delayStep := by
  obtain ⟨-, hstart, -, -, hsup, hcount, hlive⟩ := htrig
  have hlt := (hcount hdelay).2
  have hnext : (s.dlyCnt + 1).toNat = s.dlyCnt.toNat + 1 := by
    have := s.cfg.dly.isLt
    bv_omega
  have hmode : s.cfg.mode ≠ .live := fun h => by simpa [hdelay] using hlive h
  refine trigInv_outstanding (by simpa using hmode) (by simpa using hstart) ?_
    (by simpa using hsup (by simp [hdelay])) ?_
  · rw [State.delayStep_dlyCnt, State.delayStep_cfg, hnext]
    exact hlt
  · rw [State.delayStep_tstate, State.delayStep_dlyCnt, State.delayStep_cfg, hdelay]
    split
    · exact .inl rfl
    · exact .inr ⟨rfl, by bv_omega⟩

theorem edgeFires_live (prev thr cur : Sample) : edgeFires .live prev thr cur = false := rfl

/-- `TrigStep` fires from ARMED, and never in Live mode, or counts in DELAY (R133, R142). -/
theorem trigInv_trigStep {s : State} (v : Sample) (htrig : TrigInv s) : TrigInv (s.trigStep v) := by
  rcases s.trigStep_cases v with ⟨-, harmed, hedge, h⟩ | ⟨-, hdelay, h⟩ | ⟨-, -, h⟩ <;> rw [h]
  · refine trigInv_fire htrig harmed fun hlive => ?_
    simp [State.edgeFire, hlive, edgeFires_live] at hedge
  · exact trigInv_delayStep htrig hdelay
  · exact htrig

/-- `SupStep` counts towards `pre + 1`, and arms the trigger when it gets there (R132). -/
theorem trigInv_supStep {s : State} (cyc : Bool) (hpre : s.cfg.pre.toNat < 1200) (htrig : TrigInv s) :
    TrigInv (s.supStep cyc) := by
  by_cases hcount : cyc = true ∧ s.tstate = .idle
  · obtain ⟨-, hstart, hdly, hsup, -, -, -⟩ := htrig
    have hsup' := hsup hcount.2
    have hnext : (s.supCnt + 1).toNat = s.supCnt.toNat + 1 := by bv_omega
    simp only [TrigInv, State.supStep_tstate s cyc hcount, State.supStep_supCnt s cyc hcount, State.supStep_start,
      State.supStep_bufSize, State.supStep_dlyCnt, State.supStep_cfg, hnext]
    split
    · rename_i hfull
      simp [hstart, hdly, hfull]
    · rename_i hfull
      simp [hstart, hdly]
      omega
  · rwa [State.supStep_of_not s cyc hcount]

theorem trigInv_complete (s : State) : TrigInv s.complete ↔ TrigInv s := by
  simp [TrigInv]

/-- The completion check holds only a window that is complete (R168, R139). -/
theorem acqInv_complete {s : State} (hrun : s.astate = .run) : AcqInv s.complete := by
  simp [AcqInv, hrun]

/-- An accepted sample moves `pivot` and `curChan` on together, and writes the slot and the live register they name
(R162, R165, R28). -/
theorem bufInv_accept {s : State} (v : Sample) (hcfg : CfgInv s.cfg) (hbuf : BufInv s) : BufInv (s.accept v) := by
  obtain ⟨⟨hnCh, hnCh6⟩, -⟩ := hcfg
  obtain ⟨hwf, hsize, hlisted, hpivot, hchan, halign, hlive⟩ := hbuf
  have hpivot' : (s.accept v).pivot.toNat = (s.pivot.toNat + 1) % s.bufSize.toNat := by
    have hlt := Nat.mod_lt (s.pivot.toNat + 1) (show 0 < s.bufSize.toNat by omega)
    rw [State.accept_pivot, BitVec.toNat_ofNat, Nat.mod_eq_of_lt (hlt.trans s.bufSize.isLt)]
  have hchan' : (s.accept v).curChan.toNat = (s.curChan.toNat + 1) % s.cfg.nCh.toNat := by
    have hlt := Nat.mod_lt (s.curChan.toNat + 1) hnCh
    rw [State.accept_curChan, BitVec.toNat_ofNat, Nat.mod_eq_of_lt (by omega)]
  simp only [BufInv, State.accept_buf, State.accept_bufSize, State.accept_cfg, State.accept_live, hpivot', hchan']
  refine ⟨Memory.write_wf _ v hwf, hsize, Memory.write_listed_below hlisted hpivot, Nat.mod_lt _ (by omega),
    Nat.mod_lt _ hnCh, ?_, fun c hc6 hunused => ?_⟩
  · rw [Nat.mod_mod_of_dvd _ ⟨_, hsize⟩, ← halign, Nat.mod_add_mod]
  · rw [LiveSet.get_set _ _ _ (by omega), if_neg (by omega)]
    exact hlive c hc6 hunused

theorem trigInv_accept {s : State} (v : Sample) (hcfg : CfgInv s.cfg) (htrig : TrigInv s) :
    TrigInv (s.accept v) := by
  have hpre : s.cfg.pre.toNat < 1200 := by
    obtain ⟨⟨hnCh, -⟩, -, hfit, -, hpre, -⟩ := hcfg
    have := Nat.le_mul_of_pos_left s.cfg.nS.toNat hnCh
    omega
  have hstored (cyc : Bool) : TrigInv (((s.setSkipCnt s.cfg.skip).store v).markLive cyc) := by
    simpa [TrigInv] using htrig
  have hmoved (u : State) : TrigInv u → TrigInv u.advancePivot.nextChan := by simp [TrigInv]
  unfold State.accept
  exact (trigInv_complete _).mpr (trigInv_supStep _ (by simpa using hpre) (hmoved _ (trigInv_trigStep v (hstored _))))

theorem globalInv_accept {s : State} (v : Sample) (h : GlobalInv s) (hrun : s.astate = .run) :
    GlobalInv (s.accept v) := by
  obtain ⟨hcfg, hbuf, htrig, -⟩ := h
  refine ⟨by rwa [State.accept_cfg], bufInv_accept v hcfg hbuf, trigInv_accept v hcfg htrig, ?_⟩
  exact acqInv_complete (by simp [hrun])

theorem globalInv_resetEngine (s : State) : GlobalInv s.resetEngine :=
  globalInv_captureReset (s := (s.setStaged defaultRequest).activate (clampRequest defaultRequest))
    (cfgInv_clampRequest defaultRequest)

theorem State.of_extTrigAccepted {s : State} (h : s.extTrigAccepted = true) :
    s.astate = .run ∧ s.cfg.mode = .external ∧ s.tstate = .armed := by
  simp only [State.extTrigAccepted, Bool.and_eq_true, decide_eq_true_eq, State.samplingEn_iff] at h
  obtain ⟨⟨⟨-, hrun⟩, hmode⟩, harmed⟩ := h
  exact ⟨hrun, hmode, harmed⟩

/-- Every effect keeps the global invariants; the fields of `susp`, `liveAvail`, `skipCnt` and the staged registers
stand in none of them. -/
theorem globalInv_effect {s u : State} {i : Instr} (h : GlobalInv s) (heff : Effect s i u) : GlobalInv u := by
  have ⟨hcfg, hbuf, htrig, _⟩ := h
  cases heff with
  | nop | read | sampleDropped | exttrigDropped | ackcapRun => exact h
  | sampleThrottled | suspend | resume | wrcfg | acklive => exact h
  | sampleAccepted v haccept =>
    obtain ⟨-, hrun, -⟩ := haccept
    exact globalInv_accept v h hrun
  | exttrigFired hfire =>
    obtain ⟨hrun, hmode, harmed⟩ := State.of_extTrigAccepted hfire
    refine ⟨by rwa [State.fire_cfg], by simpa [BufInv] using hbuf, trigInv_fire htrig harmed (by simp [hmode]), ?_⟩
    simp [AcqInv, hrun]
  | applyCleared => exact globalInv_captureReset (cfgInv_clampRequest _)
  | applyKept fbr hkeep =>
    obtain ⟨hnCh, hnS⟩ := State.eq_of_not_bufResetNeeded hkeep
    exact globalInv_restart (cfgInv_clampRequest _) (bufInv_activate hbuf hnCh hnS)
  | ackcapReady => exact globalInv_captureReset hcfg
  | reset => exact globalInv_resetEngine s

theorem globalInv_step {s t : State} (hs : GlobalInv s) (h : step s = .next t) : GlobalInv t :=
  step_keeps (P := GlobalInv) (fun _ _ _ h => h) (fun _ h => h) (fun _ _ h => h) (fun _ _ _ => globalInv_effect) hs h

theorem globalInv_reset : GlobalInv State.reset := by
  have hfixed : State.reset.resetEngine = State.reset := by decide
  exact hfixed ▸ globalInv_resetEngine State.reset

theorem globalInv_of_reachable {s : State} (h : Reachable s) : GlobalInv s := by
  induction h with
  | reset => exact globalInv_reset
  | present inputs _ ih => exact ih
  | step _ hstep ih => exact globalInv_step ih hstep

end Sys2Proof.Machine

/-! PROOFS. What single effects leave and write (R21, R37, R39, R243), and the STATUS word as a number (R40). -/

namespace Sys2Proof.Machine

open Sys2Proof

section Frames

variable {s u : State} {i : Instr}

/-- Every effect keeps the canonical form of the buffer, in any state (R25, R60). -/
theorem Effect.buf_wf (heff : Effect s i u) (h : s.buf.wf = true) : u.buf.wf = true := by
  cases heff with
  | sampleAccepted v =>
    rw [State.accept_buf]
    exact Memory.write_wf _ v h
  | applyCleared | ackcapReady => simp [Memory.zero_wf]
  | reset => simp [Memory.zero_wf]
  | _ => simpa using h

/-- Only SUSPEND, RESUME and RESET write `susp` (R37). -/
theorem Effect.susp_eq (heff : Effect s i u) (hsuspend : i ≠ .suspend) (hreset : i ≠ .reset)
    (hresume : i ≠ .resume) : u.susp = s.susp := by
  cases heff with
  | suspend | resume | reset => contradiction
  | _ => simp

theorem Effect.eq_of_suspend (heff : Effect s .suspend u) : u = s.setSusp true := by
  cases heff with
  | suspend => rfl
  | read h | wrcfg h => cases h

theorem Effect.eq_of_resume (heff : Effect s .resume u) : u = s.setSusp false := by
  cases heff with
  | resume => rfl
  | read h | wrcfg h => cases h

theorem Effect.eq_of_reset (heff : Effect s .reset u) : u = s.resetEngine := by
  cases heff with
  | reset => rfl
  | read h | wrcfg h => cases h

/-- Of the operations only RESET writes `ill` (R39). -/
theorem Effect.ill_eq (heff : Effect s i u) (hreset : i ≠ .reset) : u.ill = s.ill := by
  cases heff with
  | reset => contradiction
  | _ => simp

/-- Only APPLY and RESET write the active configuration (R22, R23). -/
theorem Effect.cfg_eq (heff : Effect s i u) (happly : isApply i = false) (hreset : i ≠ .reset) : u.cfg = s.cfg := by
  cases heff with
  | applyCleared | applyKept => cases happly
  | reset => contradiction
  | _ => simp

/-- Only APPLY, RESET and WRCFG write the staged registers (R21). -/
theorem Effect.staged_eq (heff : Effect s i u) (happly : isApply i = false) (hreset : i ≠ .reset)
    (hwrcfg : isWrcfg i = false) : u.staged = s.staged := by
  cases heff with
  | applyCleared | applyKept => cases happly
  | reset => contradiction
  | wrcfg h => simp [h] at hwrcfg
  | _ => simp

/-- Only APPLY, RESET and ACKCAP write `bufSize` (R24). -/
theorem Effect.bufSize_eq (heff : Effect s i u) (happly : isApply i = false) (hreset : i ≠ .reset)
    (hackcap : i ≠ .ackcap) : u.bufSize = s.bufSize := by
  cases heff with
  | applyCleared | applyKept => cases happly
  | reset | ackcapReady => contradiction
  | _ => simp

/-- Outside the sampling context, APPLY, RESET and an ACKCAP in READY, an operation writes at most `susp`, the staged
registers and `liveAvail` (R243). -/
theorem Effect.eq_set_of_still (heff : Effect s i u) (hsampling : samplingContext i = false)
    (happly : isApply i = false) (hreset : i ≠ .reset) (hackcap : i = .ackcap → s.astate = .run) :
    ∃ susp staged, u =
      ((s.setSusp susp).setStaged staged).setLiveAvail (if i = .acklive then false else s.liveAvail) := by
  cases heff with
  | sampleDropped | sampleThrottled | sampleAccepted | exttrigFired | exttrigDropped => cases hsampling
  | applyCleared | applyKept => cases happly
  | reset => contradiction
  | ackcapReady hready => simp [hready] at hackcap
  | suspend => exact ⟨true, s.staged, rfl⟩
  | resume => exact ⟨false, s.staged, rfl⟩
  | nop | ackcapRun | acklive => exact ⟨s.susp, s.staged, rfl⟩
  | read h =>
    have : i ≠ .acklive := by rintro rfl; cases h
    exact ⟨s.susp, s.staged, by simp only [if_neg this]; rfl⟩
  | wrcfg h f imm =>
    have : i ≠ .acklive := by rintro rfl; cases h
    exact ⟨s.susp, s.staged.set f imm, by simp only [if_neg this]; rfl⟩

end Frames

/-- While `susp` is 1 the sampling context's operations change nothing and answer 0 (R37, R140, R163). -/
theorem exec_samplingContext_of_susp {i : Instr} {s : State} (hi : samplingContext i = true) (hsusp : s.susp = true) :
    exec i s = .next (s.setRdata 0) := by
  match i, hi with
  | .sample v, _ =>
    have hdropped : s.sample v = s := if_pos (.inl hsusp)
    exact congrArg (done · 0) hdropped
  | .exttrig, _ =>
    have hdropped : s.extTrigAccepted = false := by simp [State.extTrigAccepted, State.samplingEn, hsusp]
    exact congrArg (done · 0) (if_neg (by simp [hdropped]))

/-- Appending shifts the number on the left past the bits on the right. -/
theorem append_toNat {m n : Nat} (x : BitVec m) (y : BitVec n) : (x ++ y).toNat = x.toNat * 2 ^ n + y.toNat := by
  rw [BitVec.toNat_append, ← Nat.shiftLeft_add_eq_or_of_lt y.isLt, Nat.shiftLeft_eq]

/-- The STATUS word as a number (R40). -/
theorem State.status_toNat (s : State) :
    s.status.toNat = s.capRdy.toNat + 2 * s.liveAvail.toNat + 4 * s.susp.toNat + 8 * s.ill.toNat +
      16 * s.tstate.code.toNat + 256 * s.curChan.toNat + 4096 * s.samplingEn.toNat := by
  simp only [State.status, append_toNat, BitVec.toNat_ofBool, BitVec.ofNat_eq_ofNat, BitVec.toNat_zero]
  omega

/-- RESET leaves the table of R43, from any state (R221). -/
theorem resetTable_resetEngine (s : State) (r : Word) : ResetTable (s.resetEngine.setRdata r) := by
  simp [ResetTable, Active.reset, Staged.reset]

end Sys2Proof.Machine

/-! PROOFS. The statements about the state: its invariants, its flags, who writes what, reset and the registers. -/

namespace Sys2Proof.Proofs

open Sys2Proof Sys2Proof.Machine

/-- Settles O14: each effect keeps the invariants (`globalInv_effect`), and nothing else of a step touches them. -/
theorem stepKeepsTheInvariant : Obligations.StepKeepsTheInvariant :=
  fun _ _ => globalInv_step

/-- Settles O16, by induction on the run: what it states are parts of `GlobalInv`, and the widths of the registers. -/
theorem reachableStatesMeetTheInvariant : Obligations.ReachableStatesMeetTheInvariant := by
  intro s hs
  obtain ⟨hcfg, ⟨-, hsize, -, hpivot, hchan, halign, -⟩, ⟨hfired, hstart, hdly, hidle, hsettled, hdelay, -⟩, hacq⟩ :=
    globalInv_of_reachable hs
  have hsup : s.supCnt.toNat ≤ s.cfg.pre.toNat + 1 := by
    by_cases h : s.tstate = .idle
    · exact (hidle h).trans (Nat.le_succ _)
    · exact (hsettled h).le
  have hcode : s.tstate.code.toNat ∈ [0, 1, 3, 4] := by
    cases h : s.tstate <;> simp_all [TState.code]
  exact ⟨hcfg, hsize, hpivot, hstart, hchan, halign, hdly, hsup, hcode, hdelay, hacq, fun f => (s.staged.get f).isLt⟩

/-- Settles O17: an accepted sample writes one slot, and a buffer reset empties the list. -/
theorem stepKeepsTheBufferCanonical : Obligations.StepKeepsTheBufferCanonical :=
  fun _ _ hs h => step_keeps (P := fun s => s.buf.wf = true) (fun _ _ _ h => h) (fun _ h => h) (fun _ _ h => h)
    (fun _ _ _ h heff => heff.buf_wf h) hs h

/-- Settles O24: the word is a concatenation of fields, so its number is their weighted sum. -/
theorem statusWordLayout : Obligations.StatusWordLayout := by
  refine ⟨fun s => ⟨s.status, rfl, ?_⟩, rfl⟩
  have hrdy : s.capRdy.toNat = if s.astate = .ready then 1 else 0 := by
    simp [← State.capRdy_iff, Bool.toNat]
  have hen : s.samplingEn.toNat = if s.susp = false ∧ s.astate = .run then 1 else 0 := by
    simp [← State.samplingEn_iff, Bool.toNat]
  rw [State.status_toNat, hrdy, hen]

/-- Settles O44: the operations' effects on `susp`, and the gate of the sampling context. -/
theorem onlySuspendResumeResetWriteSusp : Obligations.OnlySuspendResumeResetWriteSusp := by
  refine ⟨fun i s t h => ?_, fun w s t hw h => ?_, fun i s => exec_samplingContext_of_susp, rfl⟩
  · obtain ⟨u, r, heff, rfl⟩ := exec_effect h
    refine ⟨?_, ?_, heff.susp_eq⟩
    · rintro (rfl | rfl)
      · simp [heff.eq_of_suspend]
      · simp [heff.eq_of_reset]
    · rintro rfl
      simp [heff.eq_of_resume]
  · simp [performWord_illegal_next hw h]

/-- Settles O45: RESET clears `ill`, an ILLEGAL word sets it, and no other effect writes it. -/
theorem illIsStickyUntilReset : Obligations.IllIsStickyUntilReset := by
  refine ⟨fun i s t h => ?_, fun w s t hw h => ?_, rfl⟩
  · obtain ⟨u, r, heff, rfl⟩ := exec_effect h
    by_cases hreset : i = .reset
    · subst hreset
      simp [heff.eq_of_reset]
    · simp [hreset, heff.ill_eq hreset]
  · simp [performWord_illegal_next hw h]

/-- Settles O46, register by register. -/
theorem onlyApplyAndResetWriteTheConfiguration : Obligations.OnlyApplyAndResetWriteTheConfiguration := by
  intro i s t h happly hreset
  obtain ⟨u, r, heff, rfl⟩ := exec_effect h
  exact ⟨heff.cfg_eq happly hreset, heff.staged_eq happly hreset, heff.bufSize_eq happly hreset⟩

/-- Settles O48: outside the five operations a state changes in registers that are not of the trigger or the buffer. -/
theorem onlyTheStatedOperationsMoveTheTrigger : Obligations.OnlyTheStatedOperationsMoveTheTrigger := by
  intro i s t h hsampling happly hreset hackcap
  obtain ⟨u, r, heff, rfl⟩ := exec_effect h
  obtain ⟨susp, staged, rfl⟩ := heff.eq_set_of_still hsampling happly hreset hackcap
  simp

/-- Settles O12: RESET assigns every element its value of the table, as power-on does. -/
theorem resetLeavesTheTable : Obligations.ResetLeavesTheTable := by
  refine ⟨?_, by decide, fun s => ⟨s.resetEngine.setRdata 0, rfl, resetTable_resetEngine s 0, rfl⟩⟩
  have hfixed : State.reset.resetEngine.setRdata 0 = State.reset := by decide
  exact hfixed ▸ resetTable_resetEngine State.reset 0

/-- Settles O15: the reset state is what RESET makes of itself. -/
theorem resetMeetsTheInvariant : Obligations.ResetMeetsTheInvariant := globalInv_reset

/-- Settles O23: RDREG's meanings are reads of the register file, and six numbers name no register. -/
theorem rdregReturnsTheRegister : Obligations.RdregReturnsTheRegister := by
  refine ⟨fun s => ⟨rfl, rfl, rfl, rfl, rfl, rfl, rfl, rfl, rfl, rfl⟩, fun k hlow hhigh => ?_, by decide⟩
  interval_cases k <;> rfl

end Sys2Proof.Proofs

/-! PROOFS. What an operation does to the circular buffer (R64, R65, R112, R113, R116): an accepted sample writes one
slot, a buffer reset clears them all, and every other operation leaves the buffer, `bufSize` and `pivot` alone. -/

namespace Sys2Proof.Machine

open Sys2Proof

/-- The three ways an operation can treat the buffer; `Effect.bufferEffect` says that there is no other. -/
inductive BufferEffect (s : State) : Instr → State → Prop where
  | accepted (v : Sample) (haccept : Accepting s) : BufferEffect s (.sample v) (s.accept v)
  /-- a `BufReset()` (R116) -/
  | cleared {i : Instr} {u : State} (hclears : isApply i = true ∨ i = .ackcap ∨ i = .reset)
      (hwrites : ∀ j, writesSlot j i s = true) (hhistory : ∀ vs, historyAfter i s vs = [])
      (hbuf : u.buf = Memory.zero) (hpivot : u.pivot = 0) : BufferEffect s i u
  | kept {i : Instr} {u : State} (hwrites : ∀ j, writesSlot j i s = false) (hhistory : ∀ vs, historyAfter i s vs = vs)
      (hbuf : u.buf = s.buf) (hsize : u.bufSize = s.bufSize) (hpivot : u.pivot = s.pivot) : BufferEffect s i u

theorem State.bufResetNeeded_iff (s : State) (fbr : Bool) :
    s.bufResetNeeded fbr (clampRequest s.staged) = true ↔ ApplyResetsBuffer fbr s := by
  simp [State.bufResetNeeded, State.resChanged, ApplyResetsBuffer, or_assoc]

section BufferEffects

variable {s u : State} {i : Instr}

theorem BufferEffect.of_sample_dropped (v : Sample) (hdrop : ¬ Accepting s) (hbuf : u.buf = s.buf)
    (hsize : u.bufSize = s.bufSize) (hpivot : u.pivot = s.pivot) : BufferEffect s (.sample v) u :=
  .kept (fun _ => decide_eq_false fun h => hdrop h.1) (fun _ => if_neg hdrop) hbuf hsize hpivot

theorem BufferEffect.of_read_or_wrcfg (h : readsOnly i = true ∨ isWrcfg i = true) (hbuf : u.buf = s.buf)
    (hsize : u.bufSize = s.bufSize) (hpivot : u.pivot = s.pivot) : BufferEffect s i u := by
  cases i with
  | sample | apply | ackcap | reset => rcases h with h | h <;> cases h
  | _ => exact .kept (fun _ => rfl) (fun _ => rfl) hbuf hsize hpivot

theorem Effect.bufferEffect (heff : Effect s i u) : BufferEffect s i u := by
  cases heff with
  | sampleAccepted v haccept => exact .accepted v haccept
  | applyCleared fbr hclear =>
    have hclear' := (s.bufResetNeeded_iff fbr).mp hclear
    exact .cleared (.inl rfl) (fun _ => decide_eq_true hclear') (fun _ => if_pos hclear') (by simp) (by simp)
  | ackcapReady hready =>
    exact .cleared (.inr (.inl rfl)) (fun _ => decide_eq_true hready) (fun _ => if_pos hready) (by simp) (by simp)
  | reset => exact .cleared (.inr (.inr rfl)) (fun _ => rfl) (fun _ => rfl) (by simp) (by simp)
  | sampleDropped v hgate =>
    refine .of_sample_dropped v (fun ⟨hsusp, hrun, _⟩ => ?_) rfl rfl rfl
    simp [hsusp, hrun] at hgate
  | sampleThrottled v _ _ hskip => exact .of_sample_dropped v (fun ⟨_, _, h⟩ => hskip h) rfl rfl rfl
  | applyKept fbr hkeep =>
    have hkeep' : ¬ ApplyResetsBuffer fbr s := by simp [← s.bufResetNeeded_iff fbr, hkeep]
    exact .kept (fun _ => decide_eq_false hkeep') (fun _ => if_neg hkeep') rfl rfl rfl
  | ackcapRun hrun =>
    have hkeep : s.astate ≠ .ready := by simp [hrun]
    exact .kept (fun _ => decide_eq_false hkeep) (fun _ => if_neg hkeep) rfl rfl rfl
  | read hread => exact .of_read_or_wrcfg (.inl hread) rfl rfl rfl
  | wrcfg hwrcfg => exact .of_read_or_wrcfg (.inr hwrcfg) rfl rfl rfl
  | exttrigFired => exact .kept (fun _ => rfl) (fun _ => rfl) (by simp) (by simp) (by simp)
  | nop | exttrigDropped | suspend | resume | acklive => exact .kept (fun _ => rfl) (fun _ => rfl) rfl rfl rfl

end BufferEffects

/-- The pivot advance as a number (R113). -/
theorem State.accept_pivot_toNat {s : State} (v : Sample) (hbuf : BufInv s) :
    (s.accept v).pivot.toNat = (s.pivot.toNat + 1) % s.bufSize.toNat := by
  obtain ⟨-, -, -, hpivot, -⟩ := hbuf
  have hlt := Nat.mod_lt (s.pivot.toNat + 1) (show 0 < s.bufSize.toNat by omega)
  rw [State.accept_pivot, BitVec.toNat_ofNat, Nat.mod_eq_of_lt (hlt.trans s.bufSize.isLt)]

/-- What the slots read after an accepted sample (R64, R112). -/
theorem State.read_accept {s : State} (v : Sample) (j : Nat) (hcfg : CfgInv s.cfg) (hbuf : BufInv s) :
    (s.accept v).buf.read j = if j = s.pivot.toNat then v else s.buf.read j := by
  obtain ⟨-, -, hfit, -⟩ := hcfg
  obtain ⟨hwf, hsize, -, hpivot, -⟩ := hbuf
  rw [State.accept_buf, Memory.read_write j v hwf (by omega)]

end Sys2Proof.Machine

/-! PROOFS. The history a buffer holds (R65, R110): a cleared buffer holds the empty one, and an accepted sample makes
it one sample longer. -/

namespace Sys2Proof.Machine

open Sys2Proof

/-- Of the numbers in a window of length `B` only one has the residue of a given one. -/
theorem mod_ne_mod_of_lt {m n B : Nat} (hlt : m < n) (hnear : n < m + B) : m % B ≠ n % B := by
  intro h
  obtain ⟨k, hk⟩ := (Nat.modEq_iff_dvd' hlt.le).mp h
  rcases Nat.eq_zero_or_pos k with rfl | hpos
  · omega
  · have := Nat.le_mul_of_pos_right B hpos
    omega

theorem holdsHistory_nil {s : State} (hpivot : s.pivot = 0) (hzero : ∀ j, s.buf.read j = 0) : HoldsHistory s [] :=
  ⟨by simp [hpivot], by simp, fun j _ _ => hzero j⟩

theorem holdsHistory_congr {s u : State} {vs : List Sample} (hbuf : u.buf = s.buf) (hsize : u.bufSize = s.bufSize)
    (hpivot : u.pivot = s.pivot) : HoldsHistory u vs ↔ HoldsHistory s vs := by
  simp only [HoldsHistory, hbuf, hsize, hpivot]

/-- The accepted sample takes the slot of the one it pushes out of the window (R65, R110). -/
theorem holdsHistory_accept {s : State} {vs : List Sample} (v : Sample) (hcfg : CfgInv s.cfg) (hbuf : BufInv s)
    (h : HoldsHistory s vs) : HoldsHistory (s.accept v) (vs ++ [v]) := by
  obtain ⟨hpivot, hrecent, hunwritten⟩ := h
  simp only [HoldsHistory, State.accept_pivot_toNat v hbuf, State.accept_bufSize, State.read_accept v _ hcfg hbuf,
    List.length_append, List.length_singleton, hpivot]
  refine ⟨Nat.mod_add_mod .., fun m hm hnear => ?_, fun j hj hm => ?_⟩
  · rcases Nat.lt_succ_iff_lt_or_eq.mp hm with hold | rfl
    · rw [if_neg (mod_ne_mod_of_lt hold (by omega)), List.getD_append _ _ _ _ hold]
      exact hrecent m hold (by omega)
    · simp
  · rw [Nat.mod_eq_of_lt (by omega), if_neg (by omega)]
    exact hunwritten j hj (by omega)

theorem holdsHistory_effect {s u : State} {i : Instr} {vs : List Sample} (hs : GlobalInv s) (h : HoldsHistory s vs)
    (heff : Effect s i u) : HoldsHistory u (historyAfter i s vs) := by
  obtain ⟨hcfg, hbufInv, -⟩ := hs
  cases heff.bufferEffect with
  | accepted v haccept =>
    rw [historyAfter, if_pos haccept]
    exact holdsHistory_accept v hcfg hbufInv h
  | cleared _ _ hhistory hbuf hpivot =>
    rw [hhistory]
    exact holdsHistory_nil hpivot (by simp [hbuf])
  | kept _ hhistory hbuf hsize hpivot =>
    rw [hhistory]
    exact (holdsHistory_congr hbuf hsize hpivot).mpr h

end Sys2Proof.Machine

/-! PROOFS. A slot that no operation writes keeps its value (R64), and fewer than `bufSize` samples come back to no
slot (R113). -/

namespace Sys2Proof.Machine

open Sys2Proof

section ReadBack

variable {s u : State} {i : Instr} {j : Nat}

theorem BufferEffect.read_eq (heff : BufferEffect s i u) (hs : GlobalInv s) (hkeep : writesSlot j i s = false) :
    u.buf.read j = s.buf.read j := by
  obtain ⟨hcfg, hbufInv, -⟩ := hs
  cases heff with
  | accepted v haccept =>
    have hother : s.pivot.toNat ≠ j := fun h => of_decide_eq_false hkeep ⟨haccept, h⟩
    rw [State.read_accept v j hcfg hbufInv, if_neg hother.symm]
  | cleared _ hwrites => simp [hwrites j] at hkeep
  | kept _ _ hbuf => rw [hbuf]

theorem BufferEffect.bufSize_eq (heff : BufferEffect s i u) (hkeep : writesSlot j i s = false) :
    u.bufSize = s.bufSize := by
  cases heff with
  | accepted v => exact s.accept_bufSize v
  | cleared _ hwrites => simp [hwrites j] at hkeep
  | kept _ _ _ hsize => exact hsize

theorem globalInv_exec {t : State} (hs : GlobalInv s) (h : exec i s = .next t) : GlobalInv t := by
  obtain ⟨u, r, heff, rfl⟩ := exec_effect h
  have hu : GlobalInv u := globalInv_effect hs heff
  exact hu

theorem execAll_cons {is : List Instr} {t : State} (h : exec i s = .next t) : execAll (i :: is) s = execAll is t := by
  simp only [execAll, h]

theorem keepsSlot_cons {is : List Instr} {t : State} (h : exec i s = .next t) :
    keepsSlot j (i :: is) s = (!writesSlot j i s && keepsSlot j is t) := by
  simp only [keepsSlot, h]

theorem exec_sample_of_accepting (v : Sample) (h : Accepting s) :
    exec (.sample v) s = .next ((s.accept v).setRdata 0) := by
  obtain ⟨hsusp, hrun, hskip⟩ := h
  have haccept : s.sample v = s.accept v := by simp [State.sample, hsusp, hrun, hskip]
  exact congrArg (done · 0) haccept

theorem exec_rdbuf (ix : Imm24) (s : State) :
    exec (.rdbuf ix) s = .next (s.setRdata ((s.buf.read (ix.toNat % s.bufSize.toNat)).setWidth 32)) := by
  rw [← norm_natCast]
  rfl

/-- Operations that do not write slot `j`, and then an RDBUF of it, return what it holds (R64, R115). -/
theorem execAll_rdbuf_of_keepsSlot {is : List Instr} {ix : Imm24} (s : State) (hs : GlobalInv s)
    (hix : ix.toNat % s.bufSize.toNat = j) (hkeep : keepsSlot j is s = true) :
    ∃ u, execAll (is ++ [.rdbuf ix]) s = .next u ∧ u.rdata = (s.buf.read j).setWidth 32 := by
  induction is generalizing s with
  | nil =>
    have hread := exec_rdbuf ix s
    rw [hix] at hread
    exact ⟨_, execAll_cons hread, rfl⟩
  | cons i is ih =>
    obtain ⟨t, hexec⟩ := exec_answers_next i s
    obtain ⟨u, r, heff, rfl⟩ := exec_effect hexec
    rw [keepsSlot_cons hexec, Bool.and_eq_true, Bool.not_eq_true'] at hkeep
    obtain ⟨hkeep, hrest⟩ := hkeep
    rw [← heff.bufferEffect.read_eq hs hkeep, List.cons_append, execAll_cons hexec]
    refine ih (u.setRdata r) (globalInv_exec hs hexec) ?_ hrest
    rwa [State.setRdata_bufSize, heff.bufferEffect.bufSize_eq hkeep]

/-- As long as the samples that follow, were they all accepted, do not bring `pivot` to `j`, slot `j` is kept. -/
theorem keepsSlot_of_samples_miss {is : List Instr} (s : State) (hs : GlobalInv s)
    (hquiet : ∀ x ∈ is, isApply x = false ∧ x ≠ .ackcap ∧ x ≠ .reset)
    (hmiss : ∀ k < (is.filter isSample).length, (s.pivot.toNat + k) % s.bufSize.toNat ≠ j) :
    keepsSlot j is s = true := by
  induction is generalizing s with
  | nil => rfl
  | cons i is ih =>
    obtain ⟨t, hexec⟩ := exec_answers_next i s
    obtain ⟨u, r, heff, rfl⟩ := exec_effect hexec
    have ht := globalInv_exec hs hexec
    have ⟨_, hbuf, _⟩ := hs
    have hrest : ∀ x ∈ is, isApply x = false ∧ x ≠ .ackcap ∧ x ≠ .reset := fun x hx => hquiet x (by simp [hx])
    rw [keepsSlot_cons hexec, Bool.and_eq_true, Bool.not_eq_true']
    cases heff.bufferEffect with
    | accepted v haccept =>
      have ⟨_, _, _, hlt, _⟩ := hbuf
      simp only [List.filter_cons, isSample, if_true, List.length_cons] at hmiss
      have hother : s.pivot.toNat ≠ j := by simpa [Nat.mod_eq_of_lt hlt] using hmiss 0 (by omega)
      refine ⟨decide_eq_false fun h => hother h.2, ih _ ht hrest fun k hk => ?_⟩
      rw [State.setRdata_pivot, State.setRdata_bufSize, State.accept_bufSize, State.accept_pivot_toNat v hbuf,
        Nat.mod_add_mod, Nat.add_assoc, Nat.add_comm 1 k]
      exact hmiss (k + 1) (by omega)
    | cleared hclears => simp [hquiet i (by simp)] at hclears
    | kept hwrites _ _ hsize hpivot =>
      refine ⟨hwrites j, ih _ ht hrest fun k hk => ?_⟩
      rw [State.setRdata_pivot, State.setRdata_bufSize, hsize, hpivot]
      exact hmiss k (hk.trans_le ((List.sublist_cons_self i is).filter isSample).length_le)

end ReadBack

end Sys2Proof.Machine

/-! PROOFS. The slots of a held window (R201): it starts at the pivot, so its offsets are the places of the history. -/

namespace Sys2Proof.Machine

open Sys2Proof

/-- Bits 9:0 of the RDWIN word are the value of the slot (R201). -/
theorem State.windowWord_setWidth (s : State) (i : Imm24) :
    ((s.windowWord i).setWidth 10 : Sample) = s.buf.read (s.windowSlot i) :=
  BitVec.setWidth_append_eq_right

/-- Bit 31 of the RDWIN word is the valid bit (R201). -/
theorem State.windowWord_getLsbD_31 (s : State) (i : Imm24) : (s.windowWord i).getLsbD 31 = s.capRdy := by
  simp only [State.windowWord, BitVec.getLsbD_append]
  simp

theorem State.windowSlot_eq (s : State) {i : Imm24} (hi : i.toNat < s.bufSize.toNat) :
    s.windowSlot i = (s.start.toNat + i.toNat) % s.bufSize.toNat := by
  rw [State.windowSlot, State.index, norm_natCast, norm_add_natCast, Nat.mod_eq_of_lt hi]

/-- Counted from `pivot`, slot `i` holds the sample `i` places after the oldest of the last `bufSize` (R65, R74). -/
theorem read_of_holdsHistory {s : State} {vs : List Sample} (h : HoldsHistory s vs) {i : Nat}
    (hi : i < s.bufSize.toNat) :
    s.buf.read ((s.pivot.toNat + i) % s.bufSize.toNat) =
      if s.bufSize.toNat ≤ vs.length + i then vs.getD (vs.length + i - s.bufSize.toNat) 0 else 0 := by
  obtain ⟨hpivot, hrecent, hunwritten⟩ := h
  rw [hpivot, Nat.mod_add_mod]
  split
  · rename_i hfull
    rw [Nat.mod_eq_sub_mod hfull]
    exact hrecent _ (by omega) (by omega)
  · rename_i hshort
    rw [Nat.mod_eq_of_lt (by omega)]
    exact hunwritten _ (by omega) (by omega)

end Sys2Proof.Machine

/-! PROOFS. What leaves the state as it is: a read in any state (R66), and every event of the sampling context while
suspended or READY (R70, R140, R163). -/

namespace Sys2Proof.Machine

open Sys2Proof

/-- A read answers the state itself with a result that depends on no result word before it (R66, log 4). -/
theorem exec_of_read {i : Instr} (hread : readsOnly i = true) (s : State) :
    (∃ r, exec i s = .next (s.setRdata r)) ∧ ∀ x, exec i (s.setRdata x) = exec i s := by
  cases i with
  | sample | exttrig | suspend | resume | apply | acklive | ackcap | reset => cases hread
  | wrcfgNCh | wrcfgPeriod | wrcfgMode | wrcfgTch | wrcfgThr | wrcfgPre | wrcfgDly | wrcfgNS | wrcfgRes | wrcfgSkip =>
    cases hread
  | _ => exact ⟨⟨_, rfl⟩, fun _ => rfl⟩

section Disabled

variable {s : State} (hoff : s.susp = true ∨ s.astate = .ready)

include hoff

theorem exec_sample_of_disabled (v : Sample) : exec (.sample v) s = .next (s.setRdata 0) := by
  have hdropped : s.sample v = s := if_pos hoff
  exact congrArg (done · 0) hdropped

theorem exec_exttrig_of_disabled : exec .exttrig s = .next (s.setRdata 0) := by
  have hdropped : s.extTrigAccepted = false := by
    rcases hoff with h | h <;> simp [State.extTrigAccepted, State.samplingEn, h]
  exact congrArg (done · 0) (if_neg (by simp [hdropped]))

end Disabled

theorem decode_encode_sample (v : Sample) : decode (encode (.sample v)) = some (.sample v) := by
  have hfits : (v.setWidth 24).toNat = v.toNat := by
    rw [BitVec.toNat_setWidth]
    omega
  simp [encode, decode, decodeSample, hfits, v.isLt]

theorem decode_idleWord : decode idleWord = some .nop := by decide

/-- The host words presented are read operations. -/
def HostReads (ts : List Instant) : Prop :=
  ∀ t ∈ ts, ∀ w, t.host = some w → ∃ i, decode w = some i ∧ readsOnly i = true

theorem performWord_idleWord (s : State) : performWord idleWord s = .next (s.setRdata 0) :=
  performWord_of_decode s decode_idleWord

/-- Whichever port is served, its word leaves the state as it is while suspended or READY (R66, R70). -/
theorem performWord_of_disabled {s : State} {t : Instant} {p : Port} {w : Word}
    (hoff : s.susp = true ∨ s.astate = .ready) (hhost : HostReads [t]) (hw : t.word p = some w) :
    ∃ r, performWord w s = .next (s.setRdata r) := by
  cases p with
  | sample =>
    obtain ⟨v, -, rfl⟩ := Option.map_eq_some_iff.mp hw
    exact ⟨0, (performWord_of_decode s (decode_encode_sample v)).trans (exec_sample_of_disabled hoff v)⟩
  | trig =>
    obtain ⟨-, rfl⟩ : t.trig = true ∧ encode .exttrig = w := by simpa [Instant.word] using hw
    exact ⟨0, (performWord_of_decode s (by decide)).trans (exec_exttrig_of_disabled hoff)⟩
  | host =>
    obtain ⟨i, hi, hread⟩ := hhost t (by simp) w hw
    obtain ⟨⟨r, hexec⟩, -⟩ := exec_of_read hread s
    exact ⟨r, (performWord_of_decode s hi).trans hexec⟩

theorem performWord_fetchWord_of_disabled {s u : State} (hoff : u.susp = true ∨ u.astate = .ready)
    (hhost : HostReads s.inputs) : ∃ r, performWord s.fetchWord u = .next (u.setRdata r) := by
  unfold State.fetchWord
  split
  · exact ⟨0, performWord_idleWord u⟩
  · rename_i t ts hs
    split
    · exact ⟨0, performWord_idleWord u⟩
    · rename_i p hp
      have hhead : HostReads [t] := fun t' ht' => hhost t' (by simp [hs, List.mem_singleton.mp ht'])
      cases hw : t.word p with
      | none => exact ⟨0, performWord_idleWord u⟩
      | some w => exact performWord_of_disabled hoff hhead hw

theorem Instant.host_of_serve {t : Instant} {p : Port} {w : Word} (h : (t.serve p).host = some w) :
    t.host = some w := by
  cases p with
  | host => cases h
  | sample | trig => exact h

/-- Serving an event presents no new host word. -/
theorem hostReads_afterFetch {s : State} (hhost : HostReads s.inputs) : HostReads s.afterFetch.inputs := by
  cases hs : s.inputs with
  | nil => simpa only [State.afterFetch, hs] using hhost
  | cons t ts =>
    rw [hs] at hhost
    have hrest : HostReads ts := fun t' ht' => hhost t' (by simp [ht'])
    cases hp : t.choose s.arbSeq with
    | none => simpa only [State.afterFetch, hs, hp, State.setInputs_inputs] using hrest
    | some p =>
      rw [State.afterFetch_of_choose hs hp, State.setArbSeq_inputs, State.setInputs_inputs, Instant.pending]
      split
      · exact hrest
      · intro t' ht' w hw
        rcases List.mem_cons.mp ht' with rfl | ht'
        · exact hhost t (by simp) w (Instant.host_of_serve hw)
        · exact hrest t' ht' w hw

/-- One step of a suspended or READY state to which the host presents only reads. -/
theorem step_of_disabled {s : State} (hoff : s.susp = true ∨ s.astate = .ready) (hhost : HostReads s.inputs) :
    ∃ ins k r, step s = .next (((s.setInputs ins).setArbSeq k).setRdata r) ∧ HostReads ins := by
  obtain ⟨ins, k, hfetch⟩ := s.afterFetch_eq
  have hins := hostReads_afterFetch hhost
  rw [hfetch] at hins
  obtain ⟨r, h⟩ := performWord_fetchWord_of_disabled (u := (s.setInputs ins).setArbSeq k) hoff hhost
  exact ⟨ins, k, r, by rw [step, hfetch, h], hins⟩

theorem runSteps_succ {s t : State} (n : Nat) (h : step s = .next t) : runSteps (n + 1) s = runSteps n t := by
  simp only [runSteps, h]

end Sys2Proof.Machine

/-! PROOFS. The statements about the memory: the history it holds, the readback of a slot, the snapshot of a
suspended engine, the READY window and the reads. -/

namespace Sys2Proof.Proofs

open Sys2Proof Sys2Proof.Machine

/-- Settles O53: each effect extends the history it is given (`holdsHistory_effect`), and a result word is no part of
it. -/
theorem bufferHoldsTheRecentHistory : Obligations.BufferHoldsTheRecentHistory := by
  refine ⟨fun i s t vs hs h hexec => ?_, fun s _ => holdsHistory_nil, holdsHistory_nil rfl fun _ => rfl⟩
  obtain ⟨u, r, heff, rfl⟩ := exec_effect hexec
  exact (holdsHistory_congr (s := u) rfl rfl rfl).mpr (holdsHistory_effect hs h heff)

/-- Settles O31: the sample is in its slot, operations that do not write the slot keep it there, and `pivot` is back at
the slot only after `bufSize` samples. -/
theorem sampledSlotReadsBack : Obligations.SampledSlotReadsBack := by
  intro v s hs haccept
  have hexec := exec_sample_of_accepting v haccept
  have ht := globalInv_exec hs hexec
  obtain ⟨hcfg, hbuf, -⟩ := hs
  refine ⟨_, hexec, fun is i hi => ⟨fun hkeep => ?_, fun hquiet hfew => ?_⟩⟩
  · have hread := execAll_rdbuf_of_keepsSlot _ ht (by rwa [State.setRdata_bufSize, State.accept_bufSize]) hkeep
    rwa [State.setRdata_buf, State.read_accept v _ hcfg hbuf, if_pos rfl] at hread
  · refine keepsSlot_of_samples_miss _ ht hquiet fun k hk => ?_
    have ⟨_, _, _, hlt, _⟩ := hbuf
    have hpast := mod_ne_mod_of_lt (show s.pivot.toNat < s.pivot.toNat + 1 + k by omega)
      (show s.pivot.toNat + 1 + k < s.pivot.toNat + s.bufSize.toNat by omega)
    rw [State.setRdata_pivot, State.setRdata_bufSize, State.accept_bufSize, State.accept_pivot_toNat v hbuf,
      Nat.mod_add_mod]
    rw [Nat.mod_eq_of_lt hlt] at hpast
    exact hpast.symm

/-- Settles O51, by induction on the steps: each leaves a state that is again suspended or READY with host reads only. -/
theorem suspensionGivesOneSnapshot : Obligations.SuspensionGivesOneSnapshot := by
  intro n
  induction n with
  | zero => exact fun s _ _ => ⟨s, rfl, rfl⟩
  | succ n ih =>
    intro s hoff hhost
    obtain ⟨ins, k, r, hstep, hins⟩ := step_of_disabled hoff hhost
    obtain ⟨t, hrun, ht⟩ := ih (((s.setInputs ins).setArbSeq k).setRdata r) hoff hins
    exact ⟨t, (runSteps_succ n hstep).trans hrun, ht⟩

/-- Settles O54: a READY window starts at `pivot`, from where the slots are the history in order. -/
theorem readyWindowIsChronological : Obligations.ReadyWindowIsChronological := by
  intro s vs i ⟨_, _, _, hacq⟩ hready h hi
  refine ⟨s.setRdata (s.windowWord i), rfl, ?_, ?_⟩
  · rw [State.setRdata_rdata, State.windowWord_getLsbD_31, s.capRdy_iff]
    exact hready
  · rw [State.setRdata_rdata, State.windowWord_setWidth, State.windowSlot_eq s hi, ← (hacq hready).2]
    exact read_of_holdsHistory h hi

/-- Settles O30: a read answers the state itself, and its result does not enter the next read. -/
theorem readsChangeNoState : Obligations.ReadsChangeNoState := by
  intro i s hread
  obtain ⟨⟨r, hexec⟩, hagain⟩ := exec_of_read hread s
  exact ⟨s.setRdata r, hexec, rfl, (hagain r).trans hexec⟩

end Sys2Proof.Proofs

/-! PROOFS. The decoder and the encoder as each other's inverses (R80 to R87): what `decode` does with the three fields
of a word, opcode by opcode, and the words each format accepts. -/

namespace Sys2Proof

/-- A statement about every word is sixteen statements, one for each opcode, about its other two fields (R80, R82). -/
theorem opcode_cases {P : Word → Prop} (nop : ∀ mid low, P (mkWord 0x0 mid low))
    (sample : ∀ mid low, P (mkWord 0x1 mid low)) (exttrig : ∀ mid low, P (mkWord 0x2 mid low))
    (suspend : ∀ mid low, P (mkWord 0x3 mid low)) (resume : ∀ mid low, P (mkWord 0x4 mid low))
    (wrcfg : ∀ mid low, P (mkWord 0x5 mid low)) (apply : ∀ mid low, P (mkWord 0x6 mid low))
    (rdcfg : ∀ mid low, P (mkWord 0x7 mid low)) (rdreg : ∀ mid low, P (mkWord 0x8 mid low))
    (rdbuf : ∀ mid low, P (mkWord 0x9 mid low)) (rdwin : ∀ mid low, P (mkWord 0xA mid low))
    (rdts : ∀ mid low, P (mkWord 0xB mid low)) (rdlive : ∀ mid low, P (mkWord 0xC mid low))
    (acklive : ∀ mid low, P (mkWord 0xD mid low)) (ackcap : ∀ mid low, P (mkWord 0xE mid low))
    (reset : ∀ mid low, P (mkWord 0xF mid low)) (w : Word) : P w := by
  have hall : ∀ op mid low, P (mkWord op mid low) := by
    intro op
    obtain ⟨⟨n, hn⟩⟩ := op
    interval_cases n
    exacts [nop, sample, exttrig, suspend, resume, wrcfg, apply, rdcfg, rdreg, rdbuf, rdwin, rdts, rdlive, acklive,
      ackcap, reset]
  rw [← mkWord_fields w]
  exact hall _ _ _

section Opcodes

variable (mid : BitVec 4) (low : Imm24)

@[simp] theorem decode_mkWord_nop : decode (mkWord 0x0 mid low) = decodeZ .nop mid low := by simp [decode]
@[simp] theorem decode_mkWord_sample : decode (mkWord 0x1 mid low) = decodeSample mid low := by simp [decode]
@[simp] theorem decode_mkWord_exttrig : decode (mkWord 0x2 mid low) = decodeZ .exttrig mid low := by simp [decode]
@[simp] theorem decode_mkWord_suspend : decode (mkWord 0x3 mid low) = decodeZ .suspend mid low := by simp [decode]
@[simp] theorem decode_mkWord_resume : decode (mkWord 0x4 mid low) = decodeZ .resume mid low := by simp [decode]
@[simp] theorem decode_mkWord_wrcfg : decode (mkWord 0x5 mid low) = decodeWrcfg mid low := by simp [decode]
@[simp] theorem decode_mkWord_apply : decode (mkWord 0x6 mid low) = decodeApply mid low := by simp [decode]
@[simp] theorem decode_mkWord_rdcfg : decode (mkWord 0x7 mid low) = decodeRdcfg mid low := by simp [decode]
@[simp] theorem decode_mkWord_rdreg : decode (mkWord 0x8 mid low) = decodeRdreg mid low := by simp [decode]
@[simp] theorem decode_mkWord_rdbuf : decode (mkWord 0x9 mid low) = decodeRdbuf mid low := by simp [decode]
@[simp] theorem decode_mkWord_rdwin : decode (mkWord 0xA mid low) = decodeRdwin mid low := by simp [decode]
@[simp] theorem decode_mkWord_rdts : decode (mkWord 0xB mid low) = decodeRdts mid low := by simp [decode]
@[simp] theorem decode_mkWord_rdlive : decode (mkWord 0xC mid low) = decodeRdlive mid low := by simp [decode]
@[simp] theorem decode_mkWord_acklive : decode (mkWord 0xD mid low) = decodeZ .acklive mid low := by simp [decode]
@[simp] theorem decode_mkWord_ackcap : decode (mkWord 0xE mid low) = decodeZ .ackcap mid low := by simp [decode]
@[simp] theorem decode_mkWord_reset : decode (mkWord 0xF mid low) = decodeZ .reset mid low := by simp [decode]

end Opcodes

/-- Decoding an encoding: the opcode selects the decoder of the format, which reads the operand back. -/
theorem decode_encode (i : Instr) : decode (encode i) = some i := by
  cases i with
  | sample v => exact Machine.decode_encode_sample v
  | wrcfgNCh | wrcfgPeriod | wrcfgMode | wrcfgTch | wrcfgThr | wrcfgPre | wrcfgDly | wrcfgNS | wrcfgRes | wrcfgSkip =>
    exact decode_mkWord_wrcfg _ _
  | apply b | rdcfgNCh b | rdcfgPeriod b | rdcfgMode b | rdcfgTch b | rdcfgThr b | rdcfgPre b | rdcfgDly b
  | rdcfgNS b | rdcfgRes b | rdcfgSkip b => cases b <;> rfl
  | rdbuf ix => exact decode_mkWord_rdbuf 0 ix
  | rdwin ix => exact decode_mkWord_rdwin 0 ix
  | rdts h ix => cases h <;> exact decode_mkWord_rdts _ ix
  | _ => rfl

section Inversion

variable {mid : BitVec 4} {low : Imm24} {i j : Instr} {b : Bool}

theorem decodeZ_eq_some : decodeZ j mid low = some i ↔ j = i ∧ mid = 0 ∧ low = 0 := by
  rw [decodeZ, Option.ite_none_right_eq_some, Option.some_inj, and_comm]

theorem decodeBit_eq_some : decodeBit low = some b ↔ low = bitOperand b := by
  cases b with
  | false => simp [decodeBit, bitOperand]
  | true => by_cases h : low = 0#24 <;> simp [decodeBit, bitOperand, h]

theorem encode_of_decodeSample (h : decodeSample mid low = some i) : encode i = mkWord 0x1 mid low := by
  obtain ⟨⟨rfl, hlt⟩, hi⟩ := Option.ite_none_right_eq_some.mp h
  obtain rfl := Option.some_inj.mp hi
  have hlow : (low.setWidth 10).setWidth 24 = low := by bv_omega
  rw [encode, hlow]

theorem encode_of_decodeWrcfg (h : decodeWrcfg mid low = some i) : encode i = mkWord 0x5 mid low := by
  obtain ⟨⟨n, hn⟩⟩ := mid
  interval_cases n <;> cases h <;> rfl

/-- A bit operand read back by `decodeBit` stands in the word as it was (formats A and C of R81). -/
theorem encode_of_map_decodeBit {f : Bool → Instr} {op : BitVec 4} (h : (decodeBit low).map f = some i)
    (hf : ∀ b, encode (f b) = mkWord op mid (bitOperand b)) : encode i = mkWord op mid low := by
  obtain ⟨b, hb, rfl⟩ := Option.map_eq_some_iff.mp h
  rw [hf, decodeBit_eq_some.mp hb]

theorem encode_of_decodeApply (h : decodeApply mid low = some i) : encode i = mkWord 0x6 mid low := by
  obtain ⟨rfl, hbit⟩ := Option.ite_none_right_eq_some.mp h
  exact encode_of_map_decodeBit hbit fun _ => rfl

theorem encode_of_decodeRdcfg (h : decodeRdcfg mid low = some i) : encode i = mkWord 0x7 mid low := by
  obtain ⟨⟨n, hn⟩⟩ := mid
  by_cases hidx : n < 10
  · interval_cases n <;> exact encode_of_map_decodeBit h fun _ => rfl
  · interval_cases n <;> cases h

theorem encode_of_decodeRdreg (h : decodeRdreg mid low = some i) : encode i = mkWord 0x8 mid low := by
  obtain ⟨rfl, hidx⟩ := Option.ite_none_right_eq_some.mp h
  obtain ⟨⟨n, hn⟩⟩ := mid
  interval_cases n <;> cases hidx <;> rfl

theorem encode_of_decodeRdbuf (h : decodeRdbuf mid low = some i) : encode i = mkWord 0x9 mid low := by
  obtain ⟨rfl, hi⟩ := Option.ite_none_right_eq_some.mp h
  obtain rfl := Option.some_inj.mp hi
  rfl

theorem encode_of_decodeRdwin (h : decodeRdwin mid low = some i) : encode i = mkWord 0xA mid low := by
  obtain ⟨rfl, hi⟩ := Option.ite_none_right_eq_some.mp h
  obtain rfl := Option.some_inj.mp hi
  rfl

theorem encode_of_decodeRdts (h : decodeRdts mid low = some i) : encode i = mkWord 0xB mid low := by
  unfold decodeRdts at h
  split at h
  · subst mid
    cases h
    rfl
  · obtain ⟨rfl, hi⟩ := Option.ite_none_right_eq_some.mp h
    cases hi
    rfl

theorem encode_of_decodeRdlive (h : decodeRdlive mid low = some i) : encode i = mkWord 0xC mid low := by
  obtain ⟨rfl, hmatch⟩ := Option.ite_none_right_eq_some.mp h
  split at hmatch
  case h_7 => cases hmatch
  all_goals
    rename_i hch
    cases hmatch
    exact mkWord_inj.mpr ⟨rfl, rfl, BitVec.eq_of_toNat_eq hch.symm⟩

end Inversion

/-- Encoding a decoding: each opcode's decoder accepts only fields that its operation is encoded to. -/
theorem encode_of_decode {w : Word} {i : Instr} (h : decode w = some i) : encode i = w := by
  induction w using opcode_cases with
  | nop | exttrig | suspend | resume | acklive | ackcap | reset =>
    simp only [decode_mkWord_nop, decode_mkWord_exttrig, decode_mkWord_suspend, decode_mkWord_resume,
      decode_mkWord_acklive, decode_mkWord_ackcap, decode_mkWord_reset] at h
    obtain ⟨rfl, rfl, rfl⟩ := decodeZ_eq_some.mp h
    rfl
  | sample mid low => exact encode_of_decodeSample (decode_mkWord_sample mid low ▸ h)
  | wrcfg mid low => exact encode_of_decodeWrcfg (decode_mkWord_wrcfg mid low ▸ h)
  | apply mid low => exact encode_of_decodeApply (decode_mkWord_apply mid low ▸ h)
  | rdcfg mid low => exact encode_of_decodeRdcfg (decode_mkWord_rdcfg mid low ▸ h)
  | rdreg mid low => exact encode_of_decodeRdreg (decode_mkWord_rdreg mid low ▸ h)
  | rdbuf mid low => exact encode_of_decodeRdbuf (decode_mkWord_rdbuf mid low ▸ h)
  | rdwin mid low => exact encode_of_decodeRdwin (decode_mkWord_rdwin mid low ▸ h)
  | rdts mid low => exact encode_of_decodeRdts (decode_mkWord_rdts mid low ▸ h)
  | rdlive mid low => exact encode_of_decodeRdlive (decode_mkWord_rdlive mid low ▸ h)

end Sys2Proof

/-! PROOFS. Which words are legal (R86), and that they are the words with an operation. -/

namespace Sys2Proof

/-- Masking a word by any mask masks its fields. -/
theorem mkWord_and_word (op mid : BitVec 4) (low : Imm24) (m : Word) :
    mkWord op mid low &&& m = mkWord (op &&& fieldOp m) (mid &&& fieldMid m) (low &&& fieldLow m) := by
  rw [← mkWord_and, mkWord_fields]

/-- The bits from `k` on are zero when the number is below `2 ^ k`. -/
theorem and_highBits_eq_zero {n : Nat} (x : BitVec n) (k : Nat) :
    x &&& BitVec.allOnes n <<< k = 0 ↔ x.toNat < 2 ^ k := by
  have hpos := Nat.two_pow_pos k
  have hle := Nat.div_mul_le_self x.toNat (2 ^ k)
  have hlt := x.isLt
  rw [← BitVec.shiftLeft_ushiftRight, BitVec.toNat_eq, BitVec.toNat_shiftLeft, BitVec.toNat_ushiftRight,
    Nat.shiftRight_eq_div_pow, Nat.shiftLeft_eq, Nat.mod_eq_of_lt (by omega),
    show (0 : BitVec n).toNat = 0 from BitVec.toNat_zero, Nat.mul_eq_zero, Nat.div_eq_zero_iff]
  omega

/-- Every encoding is a legal word. -/
theorem legalWord_encode (i : Instr) : legalWord (encode i) = true := by
  cases i with
  | sample v => exact Laws.EncodesLegalWord.sample v
  | wrcfgNCh | wrcfgPeriod | wrcfgMode | wrcfgTch | wrcfgThr | wrcfgPre | wrcfgDly | wrcfgNS | wrcfgRes | wrcfgSkip =>
    exact Laws.legalWord_wrcfg _ _ (by decide)
  | apply b | rdcfgNCh b | rdcfgPeriod b | rdcfgMode b | rdcfgTch b | rdcfgThr b | rdcfgPre b | rdcfgDly b
  | rdcfgNS b | rdcfgRes b | rdcfgSkip b => cases b <;> rfl
  | rdbuf ix | rdwin ix => exact Laws.legalWord_index _ ix rfl (by decide)
  | rdts h ix => exact Laws.EncodesLegalWord.rdts h ix
  | _ => rfl

section Legal

variable {op mid : BitVec 4} {low : Imm24}

/-- The three conditions of R86 on a word of three fields; `a` and `b` are the numbers of low bits of `mid` and `low`
that the format does not mark zero. -/
theorem legalWord_mkWord_fields (h : legalWord (mkWord op mid low) = true) (a b : Nat)
    (hz : (Format.ofOpcode op.toNat).zeroBits = mkWord 0 (BitVec.allOnes 4 <<< a) (BitVec.allOnes 24 <<< b)) :
    mid.toNat < 2 ^ a ∧ low.toNat < 2 ^ b ∧ ((Format.ofOpcode op.toNat).hasIdx = true → mid.toNat < 10) ∧
      (op = 0xC → low.toNat % 8 < 6) := by
  have hop : (mkWord op mid low).toNat / 2 ^ 28 = op.toNat := by rw [← fieldOp_toNat, fieldOp_mkWord]
  have hmid : (mkWord op mid low).toNat / 2 ^ 24 % 16 = mid.toNat := by rw [← fieldMid_toNat, fieldMid_mkWord]
  have hlow : (mkWord op mid low).toNat % 8 = low.toNat % 8 := by rw [mkWord_toNat]; omega
  rw [legalWord, zeroFieldsClear, idxInRange, liveChannelInRange, hop, hmid, hlow, hz, mkWord_and] at h
  simp only [Bool.and_eq_true, beq_iff_eq, Bool.or_eq_true, Bool.not_eq_true', beq_eq_false_iff_ne,
    decide_eq_true_eq, Machine.MAXCH_eq] at h
  obtain ⟨⟨hzero, hidx⟩, hch⟩ := h
  obtain ⟨-, hmid0, hlow0⟩ := mkWord_inj.mp (hzero.trans (show (0 : Word) = mkWord 0 0 0 from rfl))
  refine ⟨(and_highBits_eq_zero _ _).mp hmid0, (and_highBits_eq_zero _ _).mp hlow0, fun hf => ?_, fun hc => ?_⟩
  · exact hidx.resolve_left (by simp [hf])
  · exact of_decide_eq_true (hch.resolve_left (by simp [hc]))

theorem eq_zero_of_toNat_lt_one {n : Nat} {x : BitVec n} (h : x.toNat < 2 ^ 0) : x = 0 :=
  BitVec.eq_of_toNat_eq (by simpa using h)

theorem exists_decodeBit (h : low.toNat < 2 ^ 1) : ∃ b, decodeBit low = some b := by
  have hbit : low = 0 ∨ low = 1 := by bv_omega
  rcases hbit with rfl | rfl
  · exact ⟨false, rfl⟩
  · exact ⟨true, rfl⟩

theorem exists_decodeWrcfg (low : Imm24) (h : mid.toNat < 10) : ∃ i, decodeWrcfg mid low = some i := by
  obtain ⟨⟨n, hn⟩⟩ := mid
  have hn : n < 10 := h
  interval_cases n <;> exact ⟨_, rfl⟩

theorem exists_decodeRdcfg (hmid : mid.toNat < 10) (hlow : low.toNat < 2 ^ 1) :
    ∃ i, decodeRdcfg mid low = some i := by
  obtain ⟨b, hb⟩ := exists_decodeBit hlow
  obtain ⟨⟨n, hn⟩⟩ := mid
  have hn : n < 10 := hmid
  interval_cases n <;> exact ⟨_, congrArg (Option.map _) hb⟩

theorem exists_decodeRdreg (h : mid.toNat < 10) : ∃ i, decodeRdreg mid 0 = some i := by
  obtain ⟨⟨n, hn⟩⟩ := mid
  have hn : n < 10 := h
  interval_cases n <;> exact ⟨_, rfl⟩

theorem exists_decodeRdlive (h : low.toNat < 6) : ∃ i, decodeRdlive 0 low = some i := by
  obtain ⟨⟨n, hn⟩⟩ := low
  have hn : n < 6 := h
  interval_cases n <;> exact ⟨_, rfl⟩

end Legal

/-- Every legal word is an operation: its fields are ones the decoder of its format accepts. -/
theorem exists_decode_of_legalWord {w : Word} (h : legalWord w = true) : ∃ i, decode w = some i := by
  induction w using opcode_cases with
  | nop mid low | exttrig mid low | suspend mid low | resume mid low | acklive mid low | ackcap mid low
  | reset mid low =>
    obtain ⟨hmid, hlow, -⟩ := legalWord_mkWord_fields h 0 0 rfl
    rw [eq_zero_of_toNat_lt_one hmid, eq_zero_of_toNat_lt_one hlow]
    exact ⟨_, rfl⟩
  | sample mid low =>
    obtain ⟨hmid, hlow, -⟩ := legalWord_mkWord_fields h 0 10 rfl
    rw [decode_mkWord_sample]
    exact ⟨_, if_pos ⟨eq_zero_of_toNat_lt_one hmid, hlow⟩⟩
  | wrcfg mid low =>
    obtain ⟨-, -, hidx, -⟩ := legalWord_mkWord_fields h 4 24 rfl
    rw [decode_mkWord_wrcfg]
    exact exists_decodeWrcfg low (hidx rfl)
  | apply mid low =>
    obtain ⟨hmid, hlow, -⟩ := legalWord_mkWord_fields h 0 1 rfl
    obtain ⟨b, hb⟩ := exists_decodeBit hlow
    rw [decode_mkWord_apply, eq_zero_of_toNat_lt_one hmid]
    exact ⟨_, congrArg (Option.map _) hb⟩
  | rdcfg mid low =>
    obtain ⟨-, hlow, hidx, -⟩ := legalWord_mkWord_fields h 4 1 rfl
    rw [decode_mkWord_rdcfg]
    exact exists_decodeRdcfg (hidx rfl) hlow
  | rdreg mid low =>
    obtain ⟨-, hlow, hidx, -⟩ := legalWord_mkWord_fields h 4 0 rfl
    rw [decode_mkWord_rdreg, eq_zero_of_toNat_lt_one hlow]
    exact exists_decodeRdreg (hidx rfl)
  | rdbuf mid low =>
    obtain ⟨hmid, -⟩ := legalWord_mkWord_fields h 0 24 rfl
    rw [decode_mkWord_rdbuf]
    exact ⟨_, if_pos (eq_zero_of_toNat_lt_one hmid)⟩
  | rdwin mid low =>
    obtain ⟨hmid, -⟩ := legalWord_mkWord_fields h 0 24 rfl
    rw [decode_mkWord_rdwin]
    exact ⟨_, if_pos (eq_zero_of_toNat_lt_one hmid)⟩
  | rdts mid low =>
    obtain ⟨hmid, -⟩ := legalWord_mkWord_fields h 1 24 rfl
    have hbit : mid = 0 ∨ mid = 1 := by bv_omega
    rcases hbit with rfl | rfl <;> exact ⟨_, decode_mkWord_rdts _ low⟩
  | rdlive mid low =>
    obtain ⟨hmid, hlow, -, hch⟩ := legalWord_mkWord_fields h 0 3 rfl
    rw [decode_mkWord_rdlive, eq_zero_of_toNat_lt_one hmid]
    exact exists_decodeRdlive (by have := hch rfl; omega)

end Sys2Proof

/-! PROOFS. The rows of the match-and-mask table (R87): every encoding is in a row, every word in a row is an operation
of that row, and no two rows share a word. -/

namespace Sys2Proof

/-- A row looks only at the bits of its mask. -/
theorem TableRow.selects_congr {r : TableRow} {w w' : Word} (h : w &&& r.mask = w' &&& r.mask) :
    r.selects w = r.selects w' := by
  rw [TableRow.selects, TableRow.selects, h]

/-- A row whose mask leaves the `k` low bits free selects a word whatever its `k` low bits. -/
theorem exists_row_of_low_lt {op mid : BitVec 4} {low : Imm24} (k : Nat) (hlow : low.toNat < 2 ^ k)
    (h : ∃ r ∈ tableRows, fieldLow r.mask = BitVec.allOnes 24 <<< k ∧ r.selects (mkWord op mid 0) = true) :
    ∃ r ∈ tableRows, r.selects (mkWord op mid low) = true := by
  obtain ⟨r, hr, hfree, hsel⟩ := h
  refine ⟨r, hr, (TableRow.selects_congr ?_).trans hsel⟩
  rw [mkWord_and_word, mkWord_and_word, hfree, (and_highBits_eq_zero low k).mpr hlow,
    (and_highBits_eq_zero (0 : Imm24) k).mpr (Nat.two_pow_pos k)]

/-- Every encoding is in a row: its fields above the operand are the row's, and the operand stands in free bits. -/
theorem exists_row_encode (i : Instr) : ∃ r ∈ tableRows, r.selects (encode i) = true := by
  cases i with
  | sample v =>
    have hlow : (v.setWidth 24).toNat < 2 ^ 10 := by bv_omega
    exact exists_row_of_low_lt 10 hlow (by decide)
  | wrcfgNCh imm | wrcfgPeriod imm | wrcfgMode imm | wrcfgTch imm | wrcfgThr imm | wrcfgPre imm | wrcfgDly imm
  | wrcfgNS imm | wrcfgRes imm | wrcfgSkip imm => exact exists_row_of_low_lt 24 imm.isLt (by decide)
  | rdbuf ix | rdwin ix => exact exists_row_of_low_lt 24 ix.isLt (by decide)
  | rdts h ix => cases h <;> exact exists_row_of_low_lt 24 ix.isLt (by decide)
  | apply b | rdcfgNCh b | rdcfgPeriod b | rdcfgMode b | rdcfgTch b | rdcfgThr b | rdcfgPre b | rdcfgDly b
  | rdcfgNS b | rdcfgRes b | rdcfgSkip b => cases b <;> decide
  | _ => decide

/-- Every word the row selects decodes, and to an operation of the row. -/
def TableRow.Decodes (r : TableRow) : Prop :=
  ∀ w, r.selects w = true → ∃ i, decode w = some i ∧ i.mnemonic = r.mnemonic

section Rows

variable {r : TableRow} {i : Instr}

/-- A row without an operand. -/
theorem TableRow.decodes_exact (hmask : r.mask = BitVec.allOnes 32) (hdec : decode r.pat = some i)
    (hname : i.mnemonic = r.mnemonic) : r.Decodes := by
  intro w hw
  rw [TableRow.selects, hmask, BitVec.and_allOnes, beq_iff_eq] at hw
  exact ⟨i, hw ▸ hdec, hname⟩

/-- A row whose operand is the `k` low bits. -/
theorem TableRow.decodes_of_low (k : Nat) (hmask : r.mask = mkWord 0xF 0xF (BitVec.allOnes 24 <<< k))
    (hpat : fieldLow r.pat = 0)
    (hdec : ∀ low : Imm24, low.toNat < 2 ^ k →
      ∃ i, decode (mkWord (fieldOp r.pat) (fieldMid r.pat) low) = some i ∧ i.mnemonic = r.mnemonic) :
    r.Decodes := by
  intro w hw
  rw [TableRow.selects, hmask, ← mkWord_fields w, ← mkWord_fields r.pat, mkWord_and, beq_iff_eq, mkWord_inj,
    hpat, and_highBits_eq_zero] at hw
  obtain ⟨hop, hmid, hlow⟩ := hw
  rw [← mkWord_fields w, ← show fieldOp w &&& 0xF = fieldOp w from BitVec.and_allOnes, hop,
    ← show fieldMid w &&& 0xF = fieldMid w from BitVec.and_allOnes, hmid]
  exact hdec _ hlow

/-- The row of RDTS, whose operands are bit 24 and the low field (R81). -/
theorem decodes_rdts : TableRow.Decodes ⟨"RDTS", 0xB0000000, 0xFE000000⟩ := by
  intro w hw
  rw [TableRow.selects, ← mkWord_fields w, mkWord_and_word, beq_iff_eq] at hw
  obtain ⟨hop, hmid, -⟩ := mkWord_inj.mp (hw.trans (show _ = mkWord 0xB 0 0 from rfl))
  rw [← mkWord_fields w, show fieldOp w = 0xB from BitVec.and_allOnes.symm.trans hop, decode_mkWord_rdts]
  have hbit : fieldMid w = 0 ∨ fieldMid w = 1 := by
    have hlt := (and_highBits_eq_zero (fieldMid w) 1).mp hmid
    bv_omega
  rcases hbit with h | h <;> rw [h] <;> exact ⟨_, rfl, rfl⟩

end Rows

theorem decodes_of_mem_rowsPlain {r : TableRow} (hr : r ∈ rowsPlain) : r.Decodes := by
  fin_cases hr
  · exact TableRow.decodes_exact (i := .nop) rfl rfl rfl
  · exact TableRow.decodes_of_low 10 rfl rfl fun low hlow =>
      ⟨_, (decode_mkWord_sample _ low).trans (if_pos ⟨rfl, hlow⟩), rfl⟩
  · exact TableRow.decodes_exact (i := .exttrig) rfl rfl rfl
  · exact TableRow.decodes_exact (i := .suspend) rfl rfl rfl
  · exact TableRow.decodes_exact (i := .resume) rfl rfl rfl
  · refine TableRow.decodes_of_low 1 rfl rfl fun low hlow => ?_
    obtain ⟨b, hb⟩ := exists_decodeBit hlow
    exact ⟨_, (decode_mkWord_apply _ low).trans (congrArg (Option.map _) hb), rfl⟩

theorem decodes_of_mem_rowsWrcfg {r : TableRow} (hr : r ∈ rowsWrcfg) : r.Decodes := by
  fin_cases hr <;>
    exact TableRow.decodes_of_low 24 rfl rfl fun low _ => ⟨_, decode_mkWord_wrcfg _ low, rfl⟩

theorem decodes_of_mem_rowsRdcfg {r : TableRow} (hr : r ∈ rowsRdcfg) : r.Decodes := by
  fin_cases hr <;>
  · refine TableRow.decodes_of_low 1 rfl rfl fun low hlow => ?_
    obtain ⟨b, hb⟩ := exists_decodeBit hlow
    exact ⟨_, (decode_mkWord_rdcfg _ low).trans (congrArg (Option.map _) hb), rfl⟩

theorem decodes_of_mem_rowsRdreg {r : TableRow} (hr : r ∈ rowsRdreg) : r.Decodes := by
  fin_cases hr <;> exact TableRow.decodes_exact rfl rfl rfl

theorem decodes_of_mem_rowsReadout {r : TableRow} (hr : r ∈ rowsReadout) : r.Decodes := by
  fin_cases hr
  · exact TableRow.decodes_of_low 24 rfl rfl fun low _ => ⟨_, decode_mkWord_rdbuf _ low, rfl⟩
  · exact TableRow.decodes_of_low 24 rfl rfl fun low _ => ⟨_, decode_mkWord_rdwin _ low, rfl⟩
  · exact decodes_rdts
  all_goals exact TableRow.decodes_exact rfl rfl rfl

theorem decodes_of_mem_rowsAck {r : TableRow} (hr : r ∈ rowsAck) : r.Decodes := by
  fin_cases hr <;> exact TableRow.decodes_exact rfl rfl rfl

theorem decodes_of_mem_tableRows {r : TableRow} (hr : r ∈ tableRows) : r.Decodes := by
  simp only [tableRows, List.mem_append] at hr
  obtain ((((h | h) | h) | h) | h) | h := hr
  · exact decodes_of_mem_rowsPlain h
  · exact decodes_of_mem_rowsWrcfg h
  · exact decodes_of_mem_rowsRdcfg h
  · exact decodes_of_mem_rowsRdreg h
  · exact decodes_of_mem_rowsReadout h
  · exact decodes_of_mem_rowsAck h

/-- The patterns of the two rows differ in a bit that both masks look at. -/
def TableRow.disjoint (r r' : TableRow) : Bool := r.pat &&& r'.mask != r'.pat &&& r.mask

theorem TableRow.not_selects_of_disjoint {r r' : TableRow} (h : r.disjoint r' = true) (w : Word) :
    ¬ (r.selects w = true ∧ r'.selects w = true) := by
  rintro ⟨hr, hr'⟩
  simp only [TableRow.selects, beq_iff_eq] at hr hr'
  simp only [TableRow.disjoint, bne_iff_ne] at h
  exact h (by rw [← hr, ← hr', BitVec.and_assoc, BitVec.and_assoc, BitVec.and_comm r.mask])

theorem tableRows_pairwise_disjoint : tableRows.Pairwise fun r r' => r.disjoint r' = true := by
  decide

/-- A filter keeps at most one member of a list in which no two members meet its condition. -/
theorem filter_eq_nil_or_singleton {α : Type} {p : α → Bool} {l : List α}
    (h : l.Pairwise fun a b => ¬ (p a = true ∧ p b = true)) : l.filter p = [] ∨ ∃ a, l.filter p = [a] := by
  have hkept : ∀ a ∈ l.filter p, p a = true := fun a ha => (List.mem_filter.mp ha).2
  have hpair := h.filter p
  cases hl : l.filter p with
  | nil => exact .inl rfl
  | cons a m =>
    rw [hl] at hkept hpair
    cases m with
    | nil => exact .inr ⟨a, rfl⟩
    | cons b m =>
      exact absurd ⟨hkept a (by simp), hkept b (by simp)⟩ (List.rel_of_pairwise_cons hpair (by simp))

end Sys2Proof

/-! PROOFS. The pseudo-operation DRAIN (R90): reads, and then ACKCAP of the window they read. -/

namespace Sys2Proof.Machine

open Sys2Proof

/-- Reads before other operations change no more than the result word those start from (R66, log 4). -/
theorem execAll_append_of_reads {is : List Instr} (hread : ∀ i ∈ is, readsOnly i = true) (js : List Instr)
    (s : State) : ∃ r, execAll (is ++ js) s = execAll js (s.setRdata r) := by
  induction is generalizing s with
  | nil => exact ⟨s.rdata, rfl⟩
  | cons i is ih =>
    obtain ⟨⟨r, hexec⟩, -⟩ := exec_of_read (hread i (by simp)) s
    obtain ⟨r', hrest⟩ := ih (fun x hx => hread x (by simp [hx])) (s.setRdata r)
    exact ⟨r', (execAll_cons hexec).trans hrest⟩

theorem exec_ackcap_of_ready {s : State} (h : s.astate = .ready) :
    exec .ackcap s = .next (s.captureReset.setRdata 0) :=
  congrArg (done · 0) (if_pos h)

/-- DRAIN of a READY window ends as its ACKCAP does, however many offsets it reads. -/
theorem execAll_drain_of_ready {s : State} (n : Nat) (h : s.astate = .ready) :
    ∃ r, execAll (Pseudo.expand (.drain n)) s = .next ((s.setRdata r).captureReset.setRdata 0) := by
  have hreads : ∀ i ∈ (List.range n).map fun k => Instr.rdwin (BitVec.ofNat 24 k), readsOnly i = true := by
    intro i hi
    obtain ⟨k, -, rfl⟩ := List.mem_map.mp hi
    rfl
  obtain ⟨r, hexec⟩ := execAll_append_of_reads hreads [.ackcap] s
  exact ⟨r, hexec.trans (execAll_cons (exec_ackcap_of_ready (s := s.setRdata r) h))⟩

/-- A buffer in order has the size its configuration gives it at a reset (R24, R116). -/
theorem ofNat_mul_eq_bufSize {s : State} (hbuf : BufInv s) :
    BitVec.ofNat 11 (s.cfg.nCh.toNat * s.cfg.nS.toNat) = s.bufSize := by
  obtain ⟨-, hsize, -⟩ := hbuf
  rw [← hsize, BitVec.ofNat_toNat, BitVec.setWidth_eq]

end Sys2Proof.Machine

/-! PROOFS. The statements about the encoding: the decoder and the encoder, the table, the words that are illegal, and
the pseudo-operation DRAIN. -/

namespace Sys2Proof.Proofs

open Sys2Proof Sys2Proof.Machine

/-- Settles O1, by the cases of the operation: each decoder reads back what the encoder wrote. -/
theorem decodeEncodeRoundTrip : Obligations.DecodeEncodeRoundTrip :=
  decode_encode

/-- Settles O2, by the cases of the opcode: each decoder accepts only fields that its operation is encoded to. -/
theorem encodeDecodeRoundTrip : Obligations.EncodeDecodeRoundTrip :=
  fun _ _ => encode_of_decode

/-- Settles O4: the legal words are the encodings, and the encodings are the words that decode. -/
theorem wordsAreIllegalExactlyAsListed : Obligations.WordsAreIllegalExactlyAsListed := by
  intro w
  constructor
  · intro hillegal
    have hnone : decode w = none := by
      rw [Option.eq_none_iff_forall_ne_some]
      intro i hi
      have hlegal := legalWord_encode i
      rw [encode_of_decode hi, hillegal] at hlegal
      cases hlegal
    exact ⟨hnone, fun s => performWord_of_illegal s hnone⟩
  · intro hlegal
    obtain ⟨i, hi⟩ := exists_decode_of_legalWord hlegal
    exact ⟨i, hi, fun s => performWord_of_decode s hi⟩

/-- Settles O5: the rows exclude each other, every encoding is in one, and what a row selects is an operation of it. -/
theorem everyWordSelectsAtMostOneRow : Obligations.EveryWordSelectsAtMostOneRow := by
  intro w
  have hexcl := tableRows_pairwise_disjoint.imp fun h => TableRow.not_selects_of_disjoint h w
  rcases filter_eq_nil_or_singleton hexcl with hnil | ⟨r, hone⟩
  · refine .inl ⟨hnil, Option.eq_none_iff_forall_ne_some.mpr fun i hi => ?_⟩
    obtain ⟨r, hr, hsel⟩ := exists_row_encode i
    rw [encode_of_decode hi] at hsel
    exact List.filter_eq_nil_iff.mp hnil r hr hsel
  · have hmem : r ∈ tableRows.filter fun r => r.selects w := hone ▸ List.mem_singleton_self r
    obtain ⟨hr, hsel⟩ := List.mem_filter.mp hmem
    obtain ⟨i, hi, hname⟩ := decodes_of_mem_tableRows hr w hsel
    exact .inr ⟨r, i, hone, hi, hname⟩

/-- Settles O59: the reads leave the window to ACKCAP, whose three resets clear everything but the configuration. -/
theorem drainReturnsToSettling : Obligations.DrainReturnsToSettling := by
  intro n s ⟨_, hbuf, _⟩ hready
  obtain ⟨r, hexec⟩ := execAll_drain_of_ready n hready
  refine ⟨_, hexec, ?_⟩
  simp [ofNat_mul_eq_bufSize hbuf]

/-- Settles O6: each word is a number, on which the decoder computes. -/
theorem writtenWordsDecode : Obligations.WrittenWordsDecode := by
  unfold Obligations.WrittenWordsDecode
  decide

/-- Settles O3: a word is the weighted sum of its fields (`mkWord_toNat`). -/
theorem encodingsAreTheTableNumbers : Obligations.EncodingsAreTheTableNumbers := by
  refine ⟨fun v => ?_, fun imm => ?_, fun b => ?_, fun h i => ?_, by decide, by decide, by decide⟩
  · have hv : (v.setWidth 24).toNat = v.toNat := by bv_omega
    exact (mkWord_toNat _ _ _).trans (by rw [hv]; rfl)
  · refine ⟨?_, ?_, ?_, ?_, ?_, ?_, ?_, ?_, ?_, ?_⟩ <;> exact mkWord_toNat _ _ imm
  · cases b <;> decide
  · refine ⟨mkWord_toNat _ _ i, mkWord_toNat _ _ i, ?_⟩
    cases h <;> exact mkWord_toNat _ _ i

end Sys2Proof.Proofs

/-! PROOFS. The channel scheduler on an accepted sample (R101, R102, R165, R166): the channel it leaves, the live
registers and the mark on the live group. -/

namespace Sys2Proof.Machine

open Sys2Proof

/-- The channel advance as a number (R101). -/
theorem State.accept_curChan_toNat {s : State} (v : Sample) (hcfg : CfgInv s.cfg) :
    (s.accept v).curChan.toNat = (s.curChan.toNat + 1) % s.cfg.nCh.toNat := by
  obtain ⟨⟨hpos, hle⟩, -⟩ := hcfg
  have hlt := Nat.mod_lt (s.curChan.toNat + 1) hpos
  rw [State.accept_curChan, BitVec.toNat_ofNat, Nat.mod_eq_of_lt (by omega)]

/-- What the live registers read after an accepted sample (R165). -/
theorem State.live_get_accept {s : State} (v : Sample) (c : Nat) (hcfg : CfgInv s.cfg) (hbuf : BufInv s) :
    (s.accept v).live.get c = if c = s.curChan.toNat then v else s.live.get c := by
  obtain ⟨⟨-, hle⟩, -⟩ := hcfg
  obtain ⟨-, -, -, -, hchan, -⟩ := hbuf
  rw [State.accept_live, LiveSet.get_set _ _ _ (by omega)]

/-- The live group is marked by the sample of the last channel (R102, R166). -/
theorem State.accept_liveAvail_last {s : State} (v : Sample) (hcfg : CfgInv s.cfg) :
    (s.accept v).liveAvail = (s.liveAvail || decide (s.curChan.toNat = s.cfg.nCh.toNat - 1)) := by
  obtain ⟨⟨hpos, -⟩, -⟩ := hcfg
  have hlast : s.curChan.toNat + 1 = s.cfg.nCh.toNat ↔ s.curChan.toNat = s.cfg.nCh.toNat - 1 := by omega
  rw [State.accept_liveAvail, decide_eq_decide.mpr hlast]

end Sys2Proof.Machine

/-! PROOFS. The statement about the channel scheduler: where an accepted sample goes, and what it moves on. -/

namespace Sys2Proof.Proofs

open Sys2Proof Sys2Proof.Machine

/-- Settles O38: the sample is accepted, and each field of the accepted state has its own law; the result word, set
last, is no part of them. -/
theorem acceptedSampleStoresAndAdvances : Obligations.AcceptedSampleStoresAndAdvances := by
  intro v s ⟨hcfg, hbuf, _⟩ haccept
  refine ⟨_, exec_sample_of_accepting v haccept, ?slots, ?live, ?pivot, ?channel, ?liveAvail, ?kept⟩
  case slots => exact fun j => State.read_accept v j hcfg hbuf
  case live => exact fun c _ => State.live_get_accept v c hcfg hbuf
  case pivot => exact State.accept_pivot_toNat v hbuf
  case channel => exact State.accept_curChan_toNat v hcfg
  case liveAvail => exact State.accept_liveAvail_last v hcfg
  case kept => simp

end Sys2Proof.Proofs

/-! PROOFS. The statement about the circular buffer: the slot that RDBUF reads. -/

namespace Sys2Proof.Proofs

open Sys2Proof Sys2Proof.Machine

/-- Settles O26: RDBUF's only effect is the result word, and that word is the slot of the reduced index. -/
theorem rdbufReadsTheReducedSlot : Obligations.RdbufReadsTheReducedSlot :=
  exec_rdbuf

end Sys2Proof.Proofs

/-! PROOFS. The trigger's conditions and the start formula (R135, R137): which crossing fires in which mode, and where
the window begins, as an integer. -/

namespace Sys2Proof.Machine

open Sys2Proof

/-- Which crossing fires in which mode (R135). -/
theorem edgeFires_iff (mode : TrigMode) (prev thr cur : Sample) :
    edgeFires mode prev thr cur = true ↔
      (mode = .rising ∨ mode = .either) ∧ prev.toNat < thr.toNat ∧ thr.toNat ≤ cur.toNat ∨
      (mode = .falling ∨ mode = .either) ∧ thr.toNat < prev.toNat ∧ cur.toNat ≤ thr.toNat := by
  cases mode <;> simp [edgeFires, riseCond, fallCond]

/-- Without a crossing no mode fires (R135). -/
theorem edgeFires_eq_false {prev thr cur : Sample} (hrise : ¬(prev.toNat < thr.toNat ∧ thr.toNat ≤ cur.toNat))
    (hfall : ¬(thr.toNat < prev.toNat ∧ cur.toNat ≤ thr.toNat)) (mode : TrigMode) :
    edgeFires mode prev thr cur = false := by
  rw [← Bool.not_eq_true, edgeFires_iff]
  rintro (⟨-, h⟩ | ⟨-, h⟩)
  · exact hrise h
  · exact hfall h

/-- The inner `norm` of the start formula may be dropped (R137): it changes its argument by a multiple of `B`. -/
theorem startOf_eq_norm (pivot dly tch pre nCh : Nat) {B : Nat} (hB : 0 < B) :
    startOf pivot dly B tch pre nCh = norm ((pivot : Int) + dly - tch - pre * nCh) B := by
  refine norm_congr ?_
  rw [norm_cast_eq _ hB]
  exact ((Int.mod_modEq _ _).sub_right _).sub_right _

/-- The start `Fire()` sets is the formula of R136, which fits the register. -/
theorem State.fire_start_toNat {s : State} (hpos : 0 < s.bufSize.toNat) :
    (s.fire.start.toNat : Int) = startFormula s := by
  rw [State.fire_start, startOf_eq_norm _ _ _ _ _ hpos, BitVec.toNat_ofNat,
    Nat.mod_eq_of_lt ((norm_lt _ hpos).trans s.bufSize.isLt), norm_cast_eq _ hpos, startFormula]

theorem State.extTrigAccepted_iff (s : State) : s.extTrigAccepted = true ↔ ExtFireAt s := by
  simp [State.extTrigAccepted, State.samplingEn_iff, and_assoc]

theorem exec_exttrig_of_fire {s : State} (h : ExtFireAt s) : exec .exttrig s = .next (s.fire.setRdata 0) :=
  congrArg (done · 0) (if_pos (s.extTrigAccepted_iff.mpr h))

theorem exec_exttrig_of_not_fire {s : State} (h : ¬ ExtFireAt s) : exec .exttrig s = .next (s.setRdata 0) :=
  congrArg (done · 0) (if_neg (s.extTrigAccepted_iff.not.mpr h))

/-- `Fire()` writes `start`, `dlyCnt` and `tstate`, and nothing else (R136). -/
theorem State.fire_eq (s : State) :
    s.fire = ((s.setStart s.fire.start).setDlyCnt 0).setTstate (if s.cfg.dly = 0 then .capturing else .delay) := by
  rw [State.fire_start, State.fire]
  by_cases h : s.cfg.dly = 0 <;> simp only [State.setTstate_cfg, State.setDlyCnt_cfg, State.setStart_cfg, h] <;> rfl

theorem BufInv.bufSize_pos {s : State} (hbuf : BufInv s) : 0 < s.bufSize.toNat := by
  obtain ⟨-, -, -, hpivot, -⟩ := hbuf
  omega

end Sys2Proof.Machine

/-! PROOFS. What an accepted sample does to the trigger, by the trigger's state before it (R132, R133, R138, R168). -/

namespace Sys2Proof.Machine

open Sys2Proof

/-- The state that `TrigStep` sees within an accepted sample: the throttle loaded, the value stored, the live group
marked (R164 to R167). -/
def State.stored (s : State) (v : Sample) : State :=
  ((s.setSkipCnt s.cfg.skip).store v).markLive s.cycleComplete

/-- An accepted sample as the trigger sees it (R162, R167). -/
theorem State.accept_eq_trigStep (s : State) (v : Sample) :
    s.accept v = (((s.stored v).trigStep v).advancePivot.nextChan.supStep s.cycleComplete).complete := rfl

@[simp] theorem State.stored_cfg (s : State) (v : Sample) : (s.stored v).cfg = s.cfg := by simp [State.stored]
@[simp] theorem State.stored_buf (s : State) (v : Sample) : (s.stored v).buf = s.buf.write s.pivot.toNat v := by
  simp [State.stored]
@[simp] theorem State.stored_bufSize (s : State) (v : Sample) : (s.stored v).bufSize = s.bufSize := by
  simp [State.stored]
@[simp] theorem State.stored_pivot (s : State) (v : Sample) : (s.stored v).pivot = s.pivot := by simp [State.stored]
@[simp] theorem State.stored_curChan (s : State) (v : Sample) : (s.stored v).curChan = s.curChan := by
  simp [State.stored]
@[simp] theorem State.stored_tstate (s : State) (v : Sample) : (s.stored v).tstate = s.tstate := by
  simp [State.stored]
@[simp] theorem State.stored_dlyCnt (s : State) (v : Sample) : (s.stored v).dlyCnt = s.dlyCnt := by
  simp [State.stored]
@[simp] theorem State.stored_start (s : State) (v : Sample) : (s.stored v).start = s.start := by simp [State.stored]
@[simp] theorem State.stored_supCnt (s : State) (v : Sample) : (s.stored v).supCnt = s.supCnt := by
  simp [State.stored]
@[simp] theorem State.stored_astate (s : State) (v : Sample) : (s.stored v).astate = s.astate := by
  simp [State.stored]

section TrigStep

variable {s : State} (v : Sample)

theorem State.trigStep_of_idle (h : s.tstate = .idle) : s.trigStep v = s := by
  simp [State.trigStep, h]

theorem State.trigStep_of_armed (h : s.tstate = .armed) :
    s.trigStep v = if s.curChan = s.cfg.tch ∧ s.edgeFire v = true then s.fire else s := by
  simp only [State.trigStep, h, ite_and]

theorem State.trigStep_of_delay (h : s.tstate = .delay) :
    s.trigStep v = if s.curChan = s.cfg.tch then s.delayStep else s := by
  simp only [State.trigStep, h]

theorem State.trigStep_of_capturing (h : s.tstate = .capturing) : s.trigStep v = s := by
  simp [State.trigStep, h]

/-- `TrigStep` does not go back to IDLE (R133, R144). -/
theorem State.trigStep_tstate_ne_idle (h : s.tstate ≠ .idle) : (s.trigStep v).tstate ≠ .idle := by
  rcases s.trigStep_cases v with ⟨-, -, -, hstep⟩ | ⟨-, -, hstep⟩ | ⟨-, -, hstep⟩ <;> rw [hstep]
  · rw [State.fire_tstate]
    split <;> decide
  · rw [State.delayStep_tstate]
    split
    · decide
    · exact h
  · exact h

end TrigStep

section AcceptTrigger

variable {s : State} (v : Sample)

theorem State.accept_start : (s.accept v).start = ((s.stored v).trigStep v).start := by
  simp [State.accept_eq_trigStep]

theorem State.accept_dlyCnt : (s.accept v).dlyCnt = ((s.stored v).trigStep v).dlyCnt := by
  simp [State.accept_eq_trigStep]

/-- The completion check ends every accepted sample (R168). -/
theorem State.accept_astate :
    (s.accept v).astate =
      if (s.accept v).tstate = .capturing ∧ (s.accept v).pivot = (s.accept v).start then .ready else s.astate := by
  simp [State.accept_eq_trigStep]

/-- The settling count runs in IDLE only (R132). -/
theorem State.accept_supCnt_of_ne_idle (h : s.tstate ≠ .idle) : (s.accept v).supCnt = s.supCnt := by
  rw [State.accept_eq_trigStep, State.supStep_of_not]
  · simp
  · rintro ⟨-, hidle⟩
    exact State.trigStep_tstate_ne_idle v (by simpa using h) hidle

theorem State.accept_tstate_of_ne_idle (h : s.tstate ≠ .idle) :
    (s.accept v).tstate = ((s.stored v).trigStep v).tstate := by
  rw [State.accept_eq_trigStep, State.supStep_of_not]
  · simp
  · rintro ⟨-, hidle⟩
    exact State.trigStep_tstate_ne_idle v (by simpa using h) hidle

/-- In IDLE an accepted sample counts a completed channel-cycle, and arms at `pre + 1` of them (R132). -/
theorem State.accept_of_idle (h : s.tstate = .idle) :
    (s.accept v).start = s.start ∧ (s.accept v).dlyCnt = s.dlyCnt ∧
    if s.curChan.toNat + 1 = s.cfg.nCh.toNat then
      (s.accept v).supCnt = s.supCnt + 1 ∧
      (s.accept v).tstate = if (s.supCnt + 1).toNat = s.cfg.pre.toNat + 1 then .armed else .idle
    else (s.accept v).supCnt = s.supCnt ∧ (s.accept v).tstate = .idle := by
  have hstill := State.trigStep_of_idle v (s := s.stored v) (by simpa using h)
  refine ⟨by rw [State.accept_start, hstill, State.stored_start],
    by rw [State.accept_dlyCnt, hstill, State.stored_dlyCnt], ?_⟩
  rw [State.accept_eq_trigStep, hstill, State.complete_supCnt, State.complete_tstate]
  split
  · rename_i hlast
    have hcount : s.cycleComplete = true ∧ (s.stored v).advancePivot.nextChan.tstate = .idle := by
      simp [State.cycleComplete, hlast, h]
    rw [State.supStep_supCnt _ _ hcount, State.supStep_tstate _ _ hcount]
    simp
  · rename_i hmid
    rw [State.supStep_of_not]
    · simp [h]
    · simp [State.cycleComplete, hmid]

/-- In ARMED an accepted sample fires, or leaves the trigger as it is (R133, R136). -/
theorem State.accept_of_armed (h : s.tstate = .armed) :
    if s.curChan = s.cfg.tch ∧ (s.stored v).edgeFire v = true then
      (s.accept v).start = s.fire.start ∧ (s.accept v).dlyCnt = 0 ∧
      (s.accept v).tstate = if s.cfg.dly = 0 then .capturing else .delay
    else (s.accept v).start = s.start ∧ (s.accept v).dlyCnt = s.dlyCnt ∧ (s.accept v).tstate = .armed := by
  rw [State.accept_start, State.accept_dlyCnt, State.accept_tstate_of_ne_idle v (by simp [h]),
    State.trigStep_of_armed v (by simpa using h), State.stored_curChan, State.stored_cfg]
  split <;> simp [h]

/-- In DELAY an accepted sample of channel `tch` counts a period, and the `dly`-th enters CAPTURING (R133, R138). -/
theorem State.accept_of_delay (h : s.tstate = .delay) :
    (s.accept v).start = s.start ∧
    if s.curChan = s.cfg.tch then
      (s.accept v).dlyCnt = s.dlyCnt + 1 ∧
      (s.accept v).tstate = if s.dlyCnt + 1 = s.cfg.dly then .capturing else .delay
    else (s.accept v).dlyCnt = s.dlyCnt ∧ (s.accept v).tstate = .delay := by
  rw [State.accept_start, State.accept_dlyCnt, State.accept_tstate_of_ne_idle v (by simp [h]),
    State.trigStep_of_delay v (by simpa using h), State.stored_curChan, State.stored_cfg]
  split <;> simp [h]

/-- In CAPTURING only the completion check is left to do (R133, R139). -/
theorem State.accept_of_capturing (h : s.tstate = .capturing) :
    (s.accept v).start = s.start ∧ (s.accept v).dlyCnt = s.dlyCnt ∧ (s.accept v).tstate = .capturing := by
  rw [State.accept_start, State.accept_dlyCnt, State.accept_tstate_of_ne_idle v (by simp [h]),
    State.trigStep_of_capturing v (by simpa using h)]
  simp [h]

/-- The settling count does not overflow (R34). -/
theorem GlobalInv.supCnt_succ_toNat (hs : GlobalInv s) (hidle : s.tstate = .idle) :
    (s.supCnt + 1).toNat = s.supCnt.toNat + 1 := by
  obtain ⟨⟨-, -, -, -, hpre, -⟩, -, ⟨-, -, -, hsup, -⟩, -⟩ := hs
  have hle := hsup hidle
  have hfits := s.cfg.nS.isLt
  bv_omega

/-- The delay count does not overflow (R32). -/
theorem GlobalInv.dlyCnt_succ_toNat (hs : GlobalInv s) (hdelay : s.tstate = .delay) :
    (s.dlyCnt + 1).toNat = s.dlyCnt.toNat + 1 := by
  obtain ⟨-, -, ⟨-, -, -, -, -, hcount, -⟩, -⟩ := hs
  have hlt := (hcount hdelay).2
  have hfits := s.cfg.dly.isLt
  bv_omega

/-- The sample before of the same channel is not in the slot just written, since a buffer holds two cycles at least; so
`EdgeFire` compares with what the buffer held before this sample (R119, R134). -/
theorem State.edgeFire_stored_iff (hcfg : CfgInv s.cfg) (hbuf : BufInv s) (harmed : s.tstate = .armed) :
    s.curChan = s.cfg.tch ∧ (s.stored v).edgeFire v = true ↔ EdgeFireAt s v := by
  obtain ⟨⟨hnCh, -⟩, hnS, hfit, -⟩ := hcfg
  obtain ⟨hwf, hsize, -, hpivot, -⟩ := hbuf
  have htwo : 2 * s.cfg.nCh.toNat ≤ s.bufSize.toNat := by
    rw [hsize, Nat.mul_comm]
    exact Nat.mul_le_mul_left _ hnS
  have hprev : (s.stored v).prevSlot =
      (s.pivot.toNat + s.bufSize.toNat - s.cfg.nCh.toNat) % s.bufSize.toNat := by
    rw [← norm_natCast, State.prevSlot, State.stored_pivot, State.stored_cfg, State.stored_bufSize]
    refine norm_congr ?_
    rw [Int.natCast_sub (by omega), Int.natCast_add, add_sub_right_comm, Int.add_emod_right]
  have hother : (s.pivot.toNat + s.bufSize.toNat - s.cfg.nCh.toNat) % s.bufSize.toNat ≠ s.pivot.toNat := by
    have hne := mod_ne_mod_of_lt (m := s.pivot.toNat + s.bufSize.toNat - s.cfg.nCh.toNat)
      (n := s.pivot.toNat + s.bufSize.toNat) (B := s.bufSize.toNat) (by omega) (by omega)
    rwa [Nat.add_mod_right, Nat.mod_eq_of_lt hpivot] at hne
  rw [State.edgeFire, hprev, edgeFires_iff, State.stored_buf, State.stored_cfg,
    Memory.read_write _ v hwf (by omega), if_neg hother]
  simp [EdgeFireAt, harmed]

/-- An edge fire within an accepted sample (R133, R136): the window's start is the formula's, the delay begins. -/
theorem State.accept_of_edgeFire (hcfg : CfgInv s.cfg) (hbuf : BufInv s) (hfire : EdgeFireAt s v) :
    ((s.accept v).start.toNat : Int) = startFormula s ∧ (s.accept v).dlyCnt = 0 ∧
    (s.accept v).tstate = if s.cfg.dly = 0 then .capturing else .delay := by
  have harmed : s.tstate = .armed := hfire.1
  have hmove := State.accept_of_armed v harmed
  rw [if_pos ((State.edgeFire_stored_iff v hcfg hbuf harmed).mpr hfire)] at hmove
  obtain ⟨hstart, hdly, htstate⟩ := hmove
  exact ⟨by rw [hstart, State.fire_start_toNat hbuf.bufSize_pos], hdly, htstate⟩

end AcceptTrigger

end Sys2Proof.Machine

/-! PROOFS. What keeps a trigger state over many operations: an outstanding capture under every operation that does not
abandon it (R141, R173), Live mode (R142), and the settling count (R132). -/

namespace Sys2Proof.Machine

open Sys2Proof

section Outstanding

variable {s u : State} {i : Instr}

theorem isSample_of_read_or_wrcfg (h : readsOnly i = true ∨ isWrcfg i = true) : isSample i = false := by
  cases i with
  | sample => rcases h with h | h <;> cases h
  | _ => rfl

/-- While a capture is outstanding, an operation that does not abandon it is an accepted sample, or writes none of the
registers the capture rests on (R133, R141, R163, R164, R173). -/
theorem Effect.of_outstanding (heff : Effect s i u) (hcap : s.tstate = .delay ∨ s.tstate = .capturing)
    (happly : isApply i = false) (hreset : i ≠ .reset) (hackcap : i = .ackcap → s.astate = .run) :
    (∃ v, i = .sample v ∧ Accepting s ∧ u = s.accept v) ∨
    ¬(isSample i = true ∧ Accepting s) ∧ ∃ susp staged live skip,
      u = (((s.setSusp susp).setStaged staged).setLiveAvail live).setSkipCnt skip := by
  cases heff with
  | sampleAccepted v haccept => exact .inl ⟨v, rfl, haccept, rfl⟩
  | sampleDropped v hgate =>
    refine .inr ⟨fun ⟨_, hsusp, hrun, _⟩ => ?_, s.susp, s.staged, s.liveAvail, s.skipCnt, rfl⟩
    simp [hsusp, hrun] at hgate
  | sampleThrottled v _ _ hskip =>
    exact .inr ⟨fun ⟨_, _, _, h⟩ => hskip h, s.susp, s.staged, s.liveAvail, s.skipCnt - 1, rfl⟩
  | exttrigFired hfire =>
    obtain ⟨-, -, harmed⟩ := State.of_extTrigAccepted hfire
    simp [harmed] at hcap
  | applyCleared | applyKept => cases happly
  | reset => contradiction
  | ackcapReady hready => simp [hready] at hackcap
  | suspend => exact .inr ⟨by simp [isSample], true, s.staged, s.liveAvail, s.skipCnt, rfl⟩
  | resume => exact .inr ⟨by simp [isSample], false, s.staged, s.liveAvail, s.skipCnt, rfl⟩
  | acklive => exact .inr ⟨by simp [isSample], s.susp, s.staged, false, s.skipCnt, rfl⟩
  | nop | exttrigDropped | ackcapRun =>
    exact .inr ⟨by simp [isSample], s.susp, s.staged, s.liveAvail, s.skipCnt, rfl⟩
  | read hread =>
    exact .inr ⟨by simp [isSample_of_read_or_wrcfg (.inl hread)], s.susp, s.staged, s.liveAvail, s.skipCnt, rfl⟩
  | wrcfg hwrcfg f imm =>
    exact .inr ⟨by simp [isSample_of_read_or_wrcfg (.inr hwrcfg)], s.susp, s.staged.set f imm, s.liveAvail, s.skipCnt,
      rfl⟩

/-- An accepted sample keeps an outstanding capture, and its start (R133). -/
theorem State.accept_keeps_capture (v : Sample) (hcap : s.tstate = .delay ∨ s.tstate = .capturing) :
    ((s.accept v).tstate = .delay ∨ (s.accept v).tstate = .capturing) ∧ (s.accept v).start = s.start ∧
    (s.tstate = .capturing → (s.accept v).tstate = .capturing) := by
  rcases hcap with hdelay | hcapturing
  · obtain ⟨hstart, hcount⟩ := State.accept_of_delay v hdelay
    refine ⟨?_, hstart, by simp [hdelay]⟩
    split at hcount
    · rw [hcount.2]
      split
      · exact .inr rfl
      · exact .inl rfl
    · exact .inl hcount.2
  · obtain ⟨hstart, -, hkept⟩ := State.accept_of_capturing v hcapturing
    exact ⟨.inr hkept, hstart, fun _ => hkept⟩

/-- `Fire()` leaves a capture outstanding (R136). -/
theorem State.fire_outstanding (s : State) : s.fire.tstate = .delay ∨ s.fire.tstate = .capturing := by
  rw [State.fire_tstate]
  split
  · exact .inr rfl
  · exact .inl rfl

theorem Effect.keeps_capture (heff : Effect s i u) (hcap : s.tstate = .delay ∨ s.tstate = .capturing)
    (happly : isApply i = false) (hreset : i ≠ .reset) (hackcap : i = .ackcap → s.astate = .run) :
    (u.tstate = .delay ∨ u.tstate = .capturing) ∧ u.start = s.start ∧
    (s.tstate = .capturing → u.tstate = .capturing) := by
  rcases heff.of_outstanding hcap happly hreset hackcap with ⟨v, -, -, rfl⟩ | ⟨-, _, _, _, _, rfl⟩
  · exact State.accept_keeps_capture v hcap
  · exact ⟨hcap, rfl, id⟩

end Outstanding

section Live

variable {s : State}

/-- Sampling is enabled, `susp` apart, unless a window is held in CAPTURING (R44). -/
theorem GlobalInv.astate_eq_run (hs : GlobalInv s) (h : s.tstate ≠ .capturing) : s.astate = .run := by
  obtain ⟨-, -, -, hacq⟩ := hs
  cases hst : s.astate with
  | run => rfl
  | ready => exact absurd (hacq hst).1 h

/-- In Live mode the trigger is not outstanding, so no window is held (R142). -/
theorem GlobalInv.of_live (hs : GlobalInv s) (hlive : s.cfg.mode = .live) :
    (s.tstate = .idle ∨ s.tstate = .armed) ∧ s.astate = .run := by
  have ⟨_, _, htrig, _⟩ := hs
  obtain ⟨-, -, -, -, -, -, hmode⟩ := htrig
  have hstate := hmode hlive
  exact ⟨hstate, hs.astate_eq_run (by rcases hstate with h | h <;> simp [h])⟩

/-- Operations without APPLY and RESET keep the invariants and the configuration (R23, R44). -/
theorem execAll_keeps_cfg {is : List Instr} (hs : GlobalInv s) (hquiet : ∀ i ∈ is, isApply i = false ∧ i ≠ .reset) :
    ∃ t, execAll is s = .next t ∧ GlobalInv t ∧ t.cfg = s.cfg := by
  induction is generalizing s with
  | nil => exact ⟨s, rfl, hs, rfl⟩
  | cons i is ih =>
    obtain ⟨happly, hreset⟩ := hquiet i (by simp)
    obtain ⟨t, hexec⟩ := exec_answers_next i s
    obtain ⟨t', hrest, ht', hcfg⟩ := ih (globalInv_exec hs hexec) fun x hx => hquiet x (by simp [hx])
    obtain ⟨u, r, heff, rfl⟩ := exec_effect hexec
    exact ⟨t', (execAll_cons hexec).trans hrest, ht', hcfg.trans (heff.cfg_eq happly hreset)⟩

end Live

/-- How far the settling suppression has come, in samples: the cycles it counted and the samples of the one under way
(R34, R132). -/
def State.settled (s : State) : Nat := s.supCnt.toNat * s.cfg.nCh.toNat + s.curChan.toNat

@[simp] theorem State.settled_setRdata (s : State) (r : Word) : (s.setRdata r).settled = s.settled := rfl

section Settling

variable {s u : State} {i : Instr}

/-- In IDLE an accepted sample settles by one, and arms the trigger when it completes the last cycle (R132). -/
theorem State.settled_accept (v : Sample) (hs : GlobalInv s) (hidle : s.tstate = .idle) :
    (s.accept v).settled = s.settled + 1 ∧
    (s.accept v).tstate = if s.settled + 1 = (s.cfg.pre.toNat + 1) * s.cfg.nCh.toNat then .armed else .idle := by
  have hnext := hs.supCnt_succ_toNat hidle
  obtain ⟨hcfg, ⟨-, -, -, -, hchan, -⟩, ⟨-, -, -, hsup, -⟩, -⟩ := hs
  have hchan' := State.accept_curChan_toNat v hcfg
  obtain ⟨⟨hpos, -⟩, -⟩ := hcfg
  have hsucc := Nat.add_one_mul s.supCnt.toNat s.cfg.nCh.toNat
  obtain ⟨-, -, hcount⟩ := State.accept_of_idle v hidle
  rw [State.settled, State.settled, State.accept_cfg, hchan']
  split at hcount
  · rename_i hlast
    obtain ⟨hsup', htstate⟩ := hcount
    have hcycles : s.supCnt.toNat * s.cfg.nCh.toNat + s.curChan.toNat + 1 =
        (s.supCnt.toNat + 1) * s.cfg.nCh.toNat := by omega
    have hfull : (s.supCnt.toNat + 1) * s.cfg.nCh.toNat = (s.cfg.pre.toNat + 1) * s.cfg.nCh.toNat ↔
        s.supCnt.toNat + 1 = s.cfg.pre.toNat + 1 := Nat.mul_left_inj (by omega)
    rw [hsup', htstate, hnext, hcycles, hlast, Nat.mod_self, Nat.add_zero]
    simp only [hfull, and_self]
  · rename_i hmid
    obtain ⟨hsup', htstate⟩ := hcount
    have hle := Nat.mul_le_mul_right s.cfg.nCh.toNat (Nat.add_le_add_right (hsup hidle) 1)
    rw [hsup', htstate, Nat.mod_eq_of_lt (by omega), if_neg (by omega)]
    exact ⟨rfl, rfl⟩

/-- In IDLE the settling is not over (R34). -/
theorem State.settled_lt (hs : GlobalInv s) (hidle : s.tstate = .idle) :
    s.settled < (s.cfg.pre.toNat + 1) * s.cfg.nCh.toNat := by
  obtain ⟨-, ⟨-, -, -, -, hchan, -⟩, ⟨-, -, -, hsup, -⟩, -⟩ := hs
  have hle := Nat.mul_le_mul_right s.cfg.nCh.toNat (hsup hidle)
  rw [State.settled, Nat.add_one_mul]
  omega

/-- In IDLE the sampling context's operations settle by at most the samples among them, and fire nothing (R132,
R140). -/
theorem Effect.settles (heff : Effect s i u) (hs : GlobalInv s) (hidle : s.tstate = .idle)
    (hctx : samplingContext i = true)
    (hfew : ([i].filter isSample).length + s.settled < (s.cfg.pre.toNat + 1) * s.cfg.nCh.toNat) :
    u.tstate = .idle ∧ u.cfg = s.cfg ∧ u.settled ≤ ([i].filter isSample).length + s.settled := by
  cases heff with
  | sampleAccepted v =>
    obtain ⟨hsettled, htstate⟩ := State.settled_accept v hs hidle
    simp only [isSample, List.filter_cons, if_true, List.filter_nil, List.length_singleton] at hfew ⊢
    rw [if_neg (by omega)] at htstate
    exact ⟨htstate, State.accept_cfg s v, by omega⟩
  | sampleDropped | sampleThrottled | exttrigDropped | read | wrcfg => exact ⟨hidle, rfl, Nat.le_add_left ..⟩
  | exttrigFired hfire =>
    obtain ⟨-, -, harmed⟩ := State.of_extTrigAccepted hfire
    simp [hidle] at harmed
  | nop | suspend | resume | applyCleared | applyKept | acklive | ackcapReady | ackcapRun | reset => cases hctx

/-- Too few samples to settle leave the trigger in IDLE, whatever EXTTRIG comes between (R132). -/
theorem execAll_idle_of_few_samples {is : List Instr} (hs : GlobalInv s) (hidle : s.tstate = .idle)
    (hctx : ∀ i ∈ is, samplingContext i = true)
    (hfew : (is.filter isSample).length + s.settled < (s.cfg.pre.toNat + 1) * s.cfg.nCh.toNat) :
    ∃ t, execAll is s = .next t ∧ t.tstate = .idle ∧ t.astate = .run := by
  induction is generalizing s with
  | nil => exact ⟨s, rfl, hidle, hs.astate_eq_run (by simp [hidle])⟩
  | cons i is ih =>
    obtain ⟨t, hexec⟩ := exec_answers_next i s
    have ht := globalInv_exec hs hexec
    obtain ⟨u, r, heff, rfl⟩ := exec_effect hexec
    rw [← List.singleton_append, List.filter_append, List.length_append] at hfew
    obtain ⟨hidle', hcfg, hsettled⟩ := heff.settles hs hidle (hctx i (by simp)) (by omega)
    obtain ⟨t', hrest, hend⟩ := ih (s := u.setRdata r) ht hidle' (fun x hx => hctx x (by simp [hx]))
      (by rw [State.settled_setRdata, State.setRdata_cfg, hcfg]; omega)
    exact ⟨t', (execAll_cons hexec).trans hrest, hend⟩

/-- With the throttle off, exactly the samples that complete the last cycle leave the trigger ARMED (R132). -/
theorem execAll_samples_arms {vs : List Sample} (hs : GlobalInv s) (hidle : s.tstate = .idle) (haccept : Accepting s)
    (hskip : s.cfg.skip = 0) (hlen : vs.length + s.settled = (s.cfg.pre.toNat + 1) * s.cfg.nCh.toNat) :
    ∃ t, execAll (samples vs) s = .next t ∧ t.tstate = .armed := by
  induction vs generalizing s with
  | nil =>
    have := State.settled_lt hs hidle
    simp only [List.length_nil] at hlen
    omega
  | cons v vs ih =>
    have hexec := exec_sample_of_accepting v haccept
    have ht := globalInv_exec hs hexec
    obtain ⟨hsettled, htstate⟩ := State.settled_accept v hs hidle
    rw [List.length_cons] at hlen
    rw [samples, List.map_cons, execAll_cons hexec]
    split at htstate
    · have hlast : vs = [] := List.length_eq_zero_iff.mp (by omega)
      subst hlast
      exact ⟨_, rfl, htstate⟩
    · have hrun := ht.astate_eq_run (by rw [State.setRdata_tstate, htstate]; decide)
      obtain ⟨hsusp, -, -⟩ := haccept
      refine ih ht htstate ⟨?_, hrun, ?_⟩ ?_ ?_
      · rwa [State.setRdata_susp, State.accept_susp]
      · rwa [State.setRdata_skipCnt, State.accept_skipCnt]
      · rwa [State.setRdata_cfg, State.accept_cfg]
      · rw [State.settled_setRdata, State.setRdata_cfg, State.accept_cfg, hsettled]
        omega

end Settling

end Sys2Proof.Machine

/-! PROOFS. The count of samples an outstanding capture is away from READY (R138, R139, R168, R174). -/

namespace Sys2Proof.Machine

open Sys2Proof

/-- One step down a residue wraps at 0. -/
theorem emod_sub_one_eq (x : Int) {n : Int} (hn : 0 < n) : (x - 1) % n = if x % n = 0 then n - 1 else x % n - 1 := by
  have hlow := Int.emod_nonneg x hn.ne'
  have hhigh := Int.emod_lt_of_pos x hn
  rw [← Int.emod_sub_emod]
  split
  · rename_i hzero
    rw [hzero, ← Int.add_emod_right, Int.emod_eq_of_lt (by omega) (by omega)]
    omega
  · rw [Int.emod_eq_of_lt (by omega) (by omega)]

/-- Two numbers below `n` differ by a multiple of `n` only where they are equal. -/
theorem emod_sub_eq_zero_iff {a b n : Nat} (ha : a < n) (hb : b < n) : ((a : Int) - b) % n = 0 ↔ a = b := by
  rw [← Int.emod_eq_emod_iff_emod_sub_eq_zero, Int.emod_eq_of_lt (by omega) (by omega),
    Int.emod_eq_of_lt (by omega) (by omega), Nat.cast_inj]

/-- The least count from `E` on that has the residue of `gap` modulo `B`: samples until READY, where READY is possible
from the `E`-th sample on and `pivot` is `gap` slots short of `start`. -/
def leastCount (gap E B : Int) : Int := E + (gap - E) % B

theorem leastCount_congr {gap gap' E B : Int} (h : gap ≡ gap' [ZMOD B]) : leastCount gap E B = leastCount gap' E B := by
  unfold leastCount
  rw [(h.sub_right E).eq]

theorem le_leastCount (gap E : Int) {B : Int} (hB : 0 < B) : E ≤ leastCount gap E B :=
  Int.le_add_of_nonneg_right (Int.emod_nonneg _ hB.ne')

/-- One sample later both the gap and the first possible sample are one nearer. -/
theorem leastCount_pred (gap E B : Int) : leastCount (gap - 1) (E - 1) B = leastCount gap E B - 1 := by
  unfold leastCount
  rw [sub_sub_sub_cancel_right]
  omega

/-- From the next sample on, instead of from now on, makes a difference only where `pivot` is at `start`. -/
theorem leastCount_zero (gap : Int) {B : Int} (hB : 0 < B) :
    leastCount gap 0 B = if gap % B = 0 then 0 else leastCount gap 1 B := by
  unfold leastCount
  rw [emod_sub_one_eq gap hB, sub_zero]
  split <;> omega

/-- How many slots `pivot` is short of `start`, up to whole rounds of the buffer. -/
def State.gap (s : State) : Int := (s.start.toNat : Int) - (s.pivot.toNat : Int)

/-- In DELAY, the number of accepted samples until CAPTURING is entered (R138, R174). -/
def State.delayLeft (s : State) : Int :=
  ((s.cfg.tch.toNat : Int) - (s.curChan.toNat : Int)) % (s.cfg.nCh.toNat : Int) + 1 +
    ((s.cfg.dly.toNat : Int) - (s.dlyCnt.toNat : Int) - 1) * (s.cfg.nCh.toNat : Int)

theorem samplesLeft_of_ready {s : State} (h : s.astate = .ready) : samplesLeft s = 0 := by
  simp [samplesLeft, h]

theorem samplesLeft_of_capturing {s : State} (hrun : s.astate = .run) (h : s.tstate = .capturing) :
    samplesLeft s = (leastCount s.gap 1 s.bufSize.toNat).toNat := by
  simp [samplesLeft, hrun, h, leastCount, State.gap]

theorem samplesLeft_of_delay {s : State} (hrun : s.astate = .run) (h : s.tstate = .delay) :
    samplesLeft s = (leastCount s.gap s.delayLeft s.bufSize.toNat).toNat := by
  simp [samplesLeft, hrun, h, leastCount, State.gap, State.delayLeft]

section Countdown

variable {s : State}

theorem GlobalInv.bufSize_pos (hs : GlobalInv s) : (0 : Int) < s.bufSize.toNat := by
  have ⟨_, hbuf, _⟩ := hs
  exact Int.natCast_pos.mpr hbuf.bufSize_pos

/-- `pivot` is at `start` when the gap is a whole number of rounds (R26, R33). -/
theorem State.gap_emod_eq_zero_iff (hs : GlobalInv s) : s.gap % (s.bufSize.toNat : Int) = 0 ↔ s.pivot = s.start := by
  obtain ⟨-, ⟨-, -, -, hpivot, -⟩, ⟨-, hstart, -⟩, -⟩ := hs
  rw [State.gap, emod_sub_eq_zero_iff hstart hpivot, BitVec.toNat_inj, eq_comm]

theorem State.delayLeft_pos (hs : GlobalInv s) (hdelay : s.tstate = .delay) : 1 ≤ s.delayLeft := by
  obtain ⟨⟨⟨hnCh, -⟩, -⟩, -, ⟨-, -, -, -, -, hcount, -⟩, -⟩ := hs
  have hlt := (hcount hdelay).2
  have hdist := Int.emod_nonneg ((s.cfg.tch.toNat : Int) - s.curChan.toNat)
    (show (s.cfg.nCh.toNat : Int) ≠ 0 by omega)
  have hperiods : 0 ≤ ((s.cfg.dly.toNat : Int) - s.dlyCnt.toNat - 1) * s.cfg.nCh.toNat :=
    mul_nonneg (by omega) (by omega)
  rw [State.delayLeft]
  omega

/-- On channel `tch` only whole periods are left after this sample. -/
theorem State.delayLeft_of_channel (hch : s.curChan = s.cfg.tch) :
    s.delayLeft = 1 + ((s.cfg.dly.toNat : Int) - s.dlyCnt.toNat - 1) * s.cfg.nCh.toNat := by
  simp [State.delayLeft, hch]

/-- After a sample of channel `tch` a whole channel-cycle leads back to it; after another it is one sample nearer
(R101, R138). -/
theorem State.delayLeft_accept_eq (v : Sample) (hs : GlobalInv s) :
    (s.accept v).delayLeft =
      (if s.curChan = s.cfg.tch then (s.cfg.nCh.toNat : Int) - 1
        else ((s.cfg.tch.toNat : Int) - s.curChan.toNat) % s.cfg.nCh.toNat - 1) + 1 +
      ((s.cfg.dly.toNat : Int) - (s.accept v).dlyCnt.toNat - 1) * s.cfg.nCh.toNat := by
  obtain ⟨hcfg, ⟨-, -, -, -, hchan, -⟩, -⟩ := hs
  have hchan' := State.accept_curChan_toNat v hcfg
  obtain ⟨⟨hnCh, -⟩, -, -, htch, -⟩ := hcfg
  have hdist : ((s.cfg.tch.toNat : Int) - (s.accept v).curChan.toNat) % s.cfg.nCh.toNat =
      ((s.cfg.tch.toNat : Int) - s.curChan.toNat - 1) % s.cfg.nCh.toNat := by
    rw [hchan', Int.natCast_emod, Int.sub_emod_emod, Int.natCast_add, Int.natCast_one, sub_sub]
  have hwrap : ((s.cfg.tch.toNat : Int) - s.curChan.toNat) % s.cfg.nCh.toNat = 0 ↔ s.curChan = s.cfg.tch := by
    rw [emod_sub_eq_zero_iff htch hchan, BitVec.toNat_inj, eq_comm]
  rw [State.delayLeft, State.accept_cfg, hdist, emod_sub_one_eq _ (by omega)]
  simp only [hwrap]

/-- In DELAY every accepted sample brings CAPTURING one sample nearer (R138). -/
theorem State.delayLeft_accept (v : Sample) (hs : GlobalInv s) (hdelay : s.tstate = .delay) :
    (s.accept v).delayLeft = s.delayLeft - 1 := by
  obtain ⟨-, hmove⟩ := State.accept_of_delay v hdelay
  rw [State.delayLeft_accept_eq v hs]
  split at hmove
  · rename_i hch
    rw [if_pos hch, hmove.1, hs.dlyCnt_succ_toNat hdelay, State.delayLeft_of_channel hch]
    push_cast
    ring
  · rename_i hch
    rw [if_neg hch, hmove.1, State.delayLeft]
    ring

/-- An accepted sample in DELAY enters CAPTURING where it was the last one left of the delay, or stays (R138). -/
theorem State.accept_tstate_of_delay (v : Sample) (hs : GlobalInv s) (hdelay : s.tstate = .delay) :
    (s.accept v).tstate = .capturing ∧ s.delayLeft = 1 ∨ (s.accept v).tstate = .delay := by
  have hnext := hs.dlyCnt_succ_toNat hdelay
  obtain ⟨-, hmove⟩ := State.accept_of_delay v hdelay
  split at hmove
  · rename_i hch
    obtain ⟨-, htstate⟩ := hmove
    split at htstate
    · rename_i hlast
      have hperiods : (s.cfg.dly.toNat : Int) - s.dlyCnt.toNat - 1 = 0 := by
        rw [← hlast, hnext]
        omega
      exact .inl ⟨htstate, by rw [State.delayLeft_of_channel hch, hperiods, zero_mul, add_zero]⟩
    · exact .inr htstate
  · exact .inr hmove.2

/-- The pivot advance brings `start` one slot nearer, up to whole rounds (R113). -/
theorem State.gap_accept (v : Sample) (hs : GlobalInv s) :
    (s.accept v).gap ≡ ((s.accept v).start.toNat : Int) - s.pivot.toNat - 1 [ZMOD s.bufSize.toNat] := by
  have ⟨_, hbuf, _⟩ := hs
  rw [State.gap, State.accept_pivot_toNat v hbuf, Int.natCast_emod, Int.natCast_add, Int.natCast_one, sub_sub]
  exact (Int.mod_modEq _ _).sub_left _

/-- Just after the completion check of a sample READY is possible from now on (R168). -/
theorem samplesLeft_of_checked (hs : GlobalInv s) (h : s.tstate = .capturing)
    (hcheck : s.astate = if s.pivot = s.start then .ready else .run) :
    samplesLeft s = (leastCount s.gap 0 s.bufSize.toNat).toNat := by
  rw [leastCount_zero _ hs.bufSize_pos]
  simp only [State.gap_emod_eq_zero_iff hs]
  split at hcheck
  · rename_i hmeet
    rw [samplesLeft_of_ready hcheck, if_pos hmeet]
    rfl
  · rename_i hapart
    rw [samplesLeft_of_capturing hcheck h, if_neg hapart]

/-- An outstanding capture is READY exactly when no sample is left (R168). -/
theorem ready_iff_samplesLeft (hs : GlobalInv s) (hcap : s.tstate = .delay ∨ s.tstate = .capturing) :
    s.astate = .ready ↔ samplesLeft s = 0 := by
  refine ⟨samplesLeft_of_ready, fun hzero => ?_⟩
  cases hst : s.astate with
  | ready => rfl
  | run =>
    rcases hcap with hdelay | hcapturing
    · have hle := le_leastCount s.gap s.delayLeft hs.bufSize_pos
      have hpos := State.delayLeft_pos hs hdelay
      rw [samplesLeft_of_delay hst hdelay] at hzero
      omega
    · have hle := le_leastCount s.gap 1 hs.bufSize_pos
      rw [samplesLeft_of_capturing hst hcapturing] at hzero
      omega

/-- A sample that is in CAPTURING, or enters it, ends in the completion check (R168). -/
theorem samplesLeft_accept_of_capturing (v : Sample) (hs : GlobalInv s) (hrun : s.astate = .run)
    (h : (s.accept v).tstate = .capturing) :
    samplesLeft (s.accept v) = (leastCount (s.accept v).gap 0 s.bufSize.toNat).toNat := by
  rw [samplesLeft_of_checked (globalInv_accept v hs hrun) h, State.accept_bufSize]
  rw [State.accept_astate, hrun]
  simp only [h, true_and]

/-- An accepted sample takes one off the number left (R138, R168). -/
theorem samplesLeft_accept (v : Sample) (hs : GlobalInv s) (hrun : s.astate = .run)
    (hcap : s.tstate = .delay ∨ s.tstate = .capturing) : samplesLeft (s.accept v) = samplesLeft s - 1 := by
  have hgap : (s.accept v).gap ≡ s.gap - 1 [ZMOD s.bufSize.toNat] := by
    obtain ⟨-, hstart, -⟩ := State.accept_keeps_capture v hcap
    have h := State.gap_accept v hs
    rwa [hstart] at h
  have hcount (E : Int) :
      leastCount (s.accept v).gap (E - 1) s.bufSize.toNat = leastCount s.gap E s.bufSize.toNat - 1 :=
    (leastCount_congr hgap).trans (leastCount_pred ..)
  have hcheck (h : (s.accept v).tstate = .capturing) :
      samplesLeft (s.accept v) = (leastCount s.gap 1 s.bufSize.toNat - 1).toNat := by
    rw [samplesLeft_accept_of_capturing v hs hrun h, ← hcount 1, sub_self]
  rcases hcap with hdelay | hcapturing
  · rw [samplesLeft_of_delay hrun hdelay]
    rcases State.accept_tstate_of_delay v hs hdelay with ⟨henter, hlast⟩ | hstay
    · rw [hcheck henter, hlast]
      omega
    · have hrun' := (globalInv_accept v hs hrun).astate_eq_run (by simp [hstay])
      rw [samplesLeft_of_delay hrun' hstay, State.delayLeft_accept v hs hdelay, State.accept_bufSize, hcount]
      omega
  · obtain ⟨-, -, hkept⟩ := State.accept_of_capturing v hcapturing
    rw [hcheck hkept, samplesLeft_of_capturing hrun hcapturing]
    omega

@[simp] theorem samplesLeft_setRdata (s : State) (r : Word) : samplesLeft (s.setRdata r) = samplesLeft s := rfl

/-- While a capture is outstanding only accepted samples are counted (R141, R163, R164). -/
theorem Effect.samplesLeft_eq {u : State} {i : Instr} (heff : Effect s i u) (hs : GlobalInv s)
    (hcap : s.tstate = .delay ∨ s.tstate = .capturing) (happly : isApply i = false) (hreset : i ≠ .reset)
    (hackcap : i = .ackcap → s.astate = .run) :
    samplesLeft u = if isSample i = true ∧ Accepting s then samplesLeft s - 1 else samplesLeft s := by
  rcases heff.of_outstanding hcap happly hreset hackcap with ⟨v, rfl, haccept, rfl⟩ | ⟨hnot, _, _, _, _, rfl⟩
  · rw [if_pos ⟨rfl, haccept⟩]
    obtain ⟨-, hrun, -⟩ := haccept
    exact samplesLeft_accept v hs hrun hcap
  · rw [if_neg hnot]
    rfl

/-- `start`, as `Fire()` sets it, is the pivot and these slots on, up to whole rounds (R136). -/
theorem startFormula_modEq (s : State) :
    startFormula s ≡ s.pivot.toNat + (s.cfg.dly.toNat - s.cfg.tch.toNat - s.cfg.pre.toNat * s.cfg.nCh.toNat)
      [ZMOD s.bufSize.toNat] := by
  have h : (s.pivot.toNat : Int) + (s.cfg.dly.toNat - s.cfg.tch.toNat - s.cfg.pre.toNat * s.cfg.nCh.toNat) =
      s.pivot.toNat + s.cfg.dly.toNat - s.cfg.tch.toNat - s.cfg.pre.toNat * s.cfg.nCh.toNat := by ring
  rw [h]
  exact Int.mod_modEq _ _

theorem edgeCompletionCount_eq (s : State) :
    edgeCompletionCount s =
      (leastCount (s.cfg.dly.toNat - s.cfg.tch.toNat - s.cfg.pre.toNat * s.cfg.nCh.toNat - 1)
        (s.cfg.dly.toNat * s.cfg.nCh.toNat) s.bufSize.toNat).toNat := rfl

/-- An edge fire starts the countdown at the count of R174. -/
theorem samplesLeft_accept_of_edgeFire (v : Sample) (hs : GlobalInv s) (hrun : s.astate = .run)
    (hfire : EdgeFireAt s v) : samplesLeft (s.accept v) = edgeCompletionCount s := by
  have ⟨hcfg, hbuf, _⟩ := hs
  obtain ⟨hstart, hdly, htstate⟩ := State.accept_of_edgeFire v hcfg hbuf hfire
  obtain ⟨-, hch, -⟩ := hfire
  have hgap : (s.accept v).gap ≡ s.cfg.dly.toNat - s.cfg.tch.toNat - s.cfg.pre.toNat * s.cfg.nCh.toNat - 1
      [ZMOD s.bufSize.toNat] := by
    have h := State.gap_accept v hs
    rw [hstart] at h
    refine h.trans ?_
    have hformula := ((startFormula_modEq s).sub_right s.pivot.toNat).sub_right 1
    rwa [add_sub_cancel_left] at hformula
  rw [edgeCompletionCount_eq, ← leastCount_congr hgap]
  split at htstate
  · rename_i hnone
    rw [samplesLeft_accept_of_capturing v hs hrun htstate, hnone]
    simp
  · have hrun' := (globalInv_accept v hs hrun).astate_eq_run (by simp [htstate])
    have hleft : (s.accept v).delayLeft = s.cfg.dly.toNat * s.cfg.nCh.toNat := by
      rw [State.delayLeft_accept_eq v hs, if_pos hch, hdly]
      simp only [BitVec.ofNat_eq_ofNat, BitVec.toNat_zero]
      push_cast
      ring
    rw [samplesLeft_of_delay hrun' htstate, hleft, State.accept_bufSize]

theorem externalCompletionCount_eq (s : State) :
    externalCompletionCount s =
      if s.cfg.dly = 0 then
        (leastCount (-s.cfg.tch.toNat - s.cfg.pre.toNat * s.cfg.nCh.toNat) 1 s.bufSize.toNat).toNat
      else
        (leastCount (s.cfg.dly.toNat - s.cfg.tch.toNat - s.cfg.pre.toNat * s.cfg.nCh.toNat)
          (((s.cfg.tch.toNat : Int) - s.curChan.toNat) % s.cfg.nCh.toNat + 1 +
            ((s.cfg.dly.toNat : Int) - 1) * s.cfg.nCh.toNat) s.bufSize.toNat).toNat := rfl

/-- An external fire starts the countdown at the count of R174; it makes no completion check (R140). -/
theorem samplesLeft_fire (hs : GlobalInv s) (hrun : s.astate = .run) :
    samplesLeft s.fire = externalCompletionCount s := by
  have ⟨_, hbuf, _⟩ := hs
  have hrun' : s.fire.astate = .run := by rwa [State.fire_astate]
  have hgap : s.fire.gap ≡ s.cfg.dly.toNat - s.cfg.tch.toNat - s.cfg.pre.toNat * s.cfg.nCh.toNat
      [ZMOD s.bufSize.toNat] := by
    have h := (startFormula_modEq s).sub_right s.pivot.toNat
    rw [State.gap, State.fire_start_toNat hbuf.bufSize_pos, State.fire_pivot]
    rwa [add_sub_cancel_left] at h
  have htstate := s.fire_tstate
  rw [externalCompletionCount_eq]
  split at htstate
  · rename_i hnone
    rw [samplesLeft_of_capturing hrun' htstate, State.fire_bufSize, leastCount_congr hgap, if_pos hnone, hnone]
    simp
  · rename_i hsome
    rw [samplesLeft_of_delay hrun' htstate, State.fire_bufSize, leastCount_congr hgap, if_neg hsome]
    simp [State.delayLeft]

/-- With the throttle off and samples alone following, an outstanding capture is READY after exactly as many samples as
are left (R168, R174). -/
theorem execAll_samples_ready_iff {ws : List Sample} (hs : GlobalInv s)
    (hcap : s.tstate = .delay ∨ s.tstate = .capturing) (hsusp : s.susp = false) (hskipCnt : s.skipCnt = 0)
    (hskip : s.cfg.skip = 0) (hlen : ws.length ≤ samplesLeft s) :
    ∃ t, execAll (samples ws) s = .next t ∧ (t.astate = .ready ↔ ws.length = samplesLeft s) := by
  induction ws generalizing s with
  | nil => exact ⟨s, rfl, (ready_iff_samplesLeft hs hcap).trans eq_comm⟩
  | cons w ws ih =>
    rw [List.length_cons] at *
    have hrun : s.astate = .run := by
      cases hst : s.astate with
      | run => rfl
      | ready =>
        rw [samplesLeft_of_ready hst] at hlen
        omega
    have hexec := exec_sample_of_accepting w ⟨hsusp, hrun, hskipCnt⟩
    have hleft := samplesLeft_accept w hs hrun hcap
    obtain ⟨hcap', -, -⟩ := State.accept_keeps_capture w hcap
    obtain ⟨t, hrest, hready⟩ := ih (s := (s.accept w).setRdata 0) (globalInv_exec hs hexec) hcap'
      (by rwa [State.setRdata_susp, State.accept_susp]) (by rwa [State.setRdata_skipCnt, State.accept_skipCnt])
      (by rwa [State.setRdata_cfg, State.accept_cfg]) (by rw [samplesLeft_setRdata, hleft]; omega)
    refine ⟨t, (execAll_cons hexec).trans hrest, hready.trans ?_⟩
    rw [samplesLeft_setRdata, hleft]
    omega

end Countdown

end Sys2Proof.Machine

/-! PROOFS. The statements about the trigger engine: the edge conditions, the start formula, what a sample and EXTTRIG
do, and how long a capture takes. -/

namespace Sys2Proof.Proofs

open Sys2Proof Sys2Proof.Machine

/-- Settles O55: every effect of an outstanding capture is an accepted sample or leaves the count alone, and both kinds
of fire set the count of R174. -/
theorem outstandingCaptureCountsDown : Obligations.OutstandingCaptureCountsDown := by
  refine ⟨fun i s t hs hcap happly hreset hackcap hexec => ?counts, fun s hs hcap => ready_iff_samplesLeft hs hcap,
    fun v s hs haccept hfire => ?edge, fun s hs hfire => ?external⟩
  case counts =>
    obtain ⟨u, r, heff, rfl⟩ := exec_effect hexec
    exact heff.samplesLeft_eq hs hcap happly hreset hackcap
  case edge =>
    have ⟨_, hrun, _⟩ := haccept
    exact ⟨_, exec_sample_of_accepting v haccept, samplesLeft_accept_of_edgeFire v hs hrun hfire⟩
  case external =>
    have ⟨_, hrun, _⟩ := hfire
    exact ⟨_, exec_exttrig_of_fire hfire, samplesLeft_fire hs hrun⟩

/-- Settles O57: the fire sets the count of R174, and the samples after it count it down. -/
theorem externalCaptureCompletesAfterTheStatedCount : Obligations.ExternalCaptureCompletesAfterTheStatedCount := by
  intro ws s hs ⟨hsusp, hrun, hskipCnt⟩ hskip hfire hlen
  have hexec := exec_exttrig_of_fire hfire
  rw [← samplesLeft_fire hs hrun] at hlen ⊢
  obtain ⟨t, hrest, hready⟩ := execAll_samples_ready_iff (s := s.fire.setRdata 0) (globalInv_exec hs hexec)
    s.fire_outstanding (by rwa [State.setRdata_susp, State.fire_susp])
    (by rwa [State.setRdata_skipCnt, State.fire_skipCnt]) (by rwa [State.setRdata_cfg, State.fire_cfg]) hlen
  exact ⟨t, (execAll_cons hexec).trans hrest, hready⟩

/-- Settles O39, by the trigger's state before the sample. -/
theorem acceptedSampleMovesTheTrigger : Obligations.AcceptedSampleMovesTheTrigger := by
  intro v s hs haccept
  have ⟨hcfg, hbuf, _⟩ := hs
  refine ⟨_, exec_sample_of_accepting v haccept, fun hidle => ?idle, State.accept_supCnt_of_ne_idle v,
    fun harmed => ?armed, fun hdelay => ?delay, State.accept_of_capturing v, ?astate⟩
  case idle =>
    have hnext := hs.supCnt_succ_toNat hidle
    obtain ⟨hstart, hdly, hmove⟩ := State.accept_of_idle v hidle
    refine ⟨hstart, hdly, ?_⟩
    split at hmove
    · rename_i hlast
      obtain ⟨hsup', htstate⟩ := hmove
      rw [hnext] at htstate
      rw [if_pos hlast]
      exact ⟨by rw [State.setRdata_supCnt, hsup', hnext], htstate⟩
    · rename_i hmid
      rwa [if_neg hmid]
  case armed =>
    by_cases hfire : EdgeFireAt s v
    · rw [if_pos hfire]
      exact State.accept_of_edgeFire v hcfg hbuf hfire
    · have hmove := State.accept_of_armed v harmed
      rw [if_neg ((State.edgeFire_stored_iff v hcfg hbuf harmed).not.mpr hfire)] at hmove
      rwa [if_neg hfire]
  case delay =>
    have hnext := hs.dlyCnt_succ_toNat hdelay
    have hend : s.dlyCnt.toNat + 1 = s.cfg.dly.toNat ↔ s.dlyCnt + 1 = s.cfg.dly := by
      rw [← hnext, BitVec.toNat_inj]
    obtain ⟨hstart, hmove⟩ := State.accept_of_delay v hdelay
    refine ⟨hstart, ?_⟩
    split at hmove
    · rename_i hch
      obtain ⟨hdly, htstate⟩ := hmove
      simp only [if_pos hch, hend]
      exact ⟨by rw [State.setRdata_dlyCnt, hdly, hnext], htstate⟩
    · rename_i hch
      rwa [if_neg hch]
  case astate =>
    obtain ⟨-, hrun, -⟩ := haccept
    exact hrun ▸ State.accept_astate v

/-- Settles O40: `Fire()` sets the formula's start, and every other EXTTRIG is dropped. -/
theorem exttrigFiresOnlyWhenEligible : Obligations.ExttrigFiresOnlyWhenEligible := by
  refine ⟨by decide, fun s hs hfire => ⟨s.fire.start, ?_, ?_⟩, fun s => exec_exttrig_of_not_fire⟩
  · obtain ⟨-, hbuf, -⟩ := hs
    exact State.fire_start_toNat hbuf.bufSize_pos
  · rw [exec_exttrig_of_fire hfire, State.fire_eq]
    rfl

/-- Settles O42: the worked values are computed, and the inner `norm` is dropped by `startOf_eq_norm`. -/
theorem startFormulaWorkedValues : Obligations.StartFormulaWorkedValues :=
  ⟨by decide, by decide, by decide, by decide, by decide, by decide,
    fun pivot dly _ tch pre nCh hB => startOf_eq_norm pivot dly tch pre nCh hB⟩

/-- Settles O49: an accepted sample counts on or collects, and no other operation touches the capture. -/
theorem onlyReconfigurationAbandonsACapture : Obligations.OnlyReconfigurationAbandonsACapture := by
  intro i s t hexec hcap happly hreset hackcap
  obtain ⟨u, r, heff, rfl⟩ := exec_effect hexec
  exact heff.keeps_capture hcap happly hreset hackcap

/-- Settles O50: the invariants of a Live configuration say it, and the operations keep both. -/
theorem liveModeNeverCompletes : Obligations.LiveModeNeverCompletes := by
  intro is s hs hlive hquiet
  obtain ⟨t, hexec, ht, hcfg⟩ := execAll_keeps_cfg hs hquiet
  obtain ⟨htstate, hrun⟩ := ht.of_live (hcfg ▸ hlive)
  exact ⟨t, hexec, hcfg, htstate, hrun⟩

/-- Settles O52: from a count of 0 the settling has come as far as the current channel. -/
theorem settlingSuppressesTheTrigger : Obligations.SettlingSuppressesTheTrigger := by
  intro s hs hidle hsup
  have hsettled : s.settled = s.curChan.toNat := by simp [State.settled, hsup]
  rw [← hsettled]
  exact ⟨fun is hctx hfew => execAll_idle_of_few_samples hs hidle hctx hfew,
    fun vs haccept hskip hlen => execAll_samples_arms hs hidle haccept hskip hlen⟩

/-- Settles O43: each corner case is a crossing of `edgeFires_iff`, or has none. -/
theorem edgeConditions : Obligations.EdgeConditions := by
  intro prev thr cur
  have hrising : edgeFires .rising prev thr cur = true ↔ prev.toNat < thr.toNat ∧ thr.toNat ≤ cur.toNat := by
    simp [edgeFires_iff]
  have hfalling : edgeFires .falling prev thr cur = true ↔ thr.toNat < prev.toNat ∧ cur.toNat ≤ thr.toNat := by
    simp [edgeFires_iff]
  have heither : edgeFires .either prev thr cur = true ↔
      (prev.toNat < thr.toNat ∧ thr.toNat ≤ cur.toNat) ∨ (thr.toNat < prev.toNat ∧ cur.toNat ≤ thr.toNat) := by
    simp [edgeFires_iff]
  refine ⟨hrising, hfalling, heither, rfl, rfl, ?prevAtThr, ?curAtThr, ?exclusive, ?thrLowest, ?thrHighest, ?staysAbove,
    ?staysBelow, by decide⟩
  case prevAtThr =>
    rintro rfl
    exact edgeFires_eq_false (by omega) (by omega)
  case curAtThr =>
    rintro rfl
    exact ⟨fun h => hrising.mpr ⟨h, le_rfl⟩, fun h => hfalling.mpr ⟨h, le_rfl⟩⟩
  case exclusive =>
    rw [hrising, hfalling]
    omega
  case thrLowest =>
    rintro rfl
    rw [← Bool.not_eq_true, hrising, hfalling]
    bv_omega
  case thrHighest =>
    rintro rfl
    rw [← Bool.not_eq_true, hrising, hfalling]
    bv_omega
  case staysAbove => exact fun hprev hcur => edgeFires_eq_false (by omega) (by omega)
  case staysBelow => exact fun hprev hcur => edgeFires_eq_false (by omega) (by omega)

end Sys2Proof.Proofs

/-! PROOFS. Runs of SAMPLE, SUSPEND, RESUME and ACKCAP (R163, R164, R170 to R172): what the throttle does to a run of
samples, and a property that every effect of a run keeps. -/

namespace Sys2Proof.Machine

open Sys2Proof

theorem exec_suspend (s : State) : exec .suspend s = .next ((s.setSusp true).setRdata 0) := rfl

theorem exec_resume (s : State) : exec .resume s = .next ((s.setSusp false).setRdata 0) := rfl

theorem exec_ackcap_of_run {s : State} (h : s.astate = .run) : exec .ackcap s = .next (s.setRdata 0) :=
  congrArg (done · 0) (if_neg (by simp [h]))

/-! The resets as the records they leave (R116, R131, R161). -/

theorem State.bufReset_eq (s : State) : s.bufReset =
    { s with
      buf := Memory.zero, live := LiveSet.zero, bufSize := BitVec.ofNat 11 (s.cfg.nCh.toNat * s.cfg.nS.toNat)
      pivot := 0, curChan := 0, liveAvail := false } := by
  rw [State.bufReset]
  generalize BitVec.ofNat 11 (s.cfg.nCh.toNat * s.cfg.nS.toNat) = size
  rfl

theorem State.restart_eq (s : State) : s.trigReset.acqReset =
    { s with tstate := .idle, dlyCnt := 0, start := 0, supCnt := 0, astate := .run, skipCnt := 0 } := rfl

theorem State.captureReset_eq (s : State) : s.captureReset =
    { s with
      buf := Memory.zero, live := LiveSet.zero, bufSize := BitVec.ofNat 11 (s.cfg.nCh.toNat * s.cfg.nS.toNat)
      pivot := 0, curChan := 0, liveAvail := false, tstate := .idle, dlyCnt := 0, start := 0, supCnt := 0
      astate := .run, skipCnt := 0 } := by
  rw [State.captureReset, State.restart_eq, State.bufReset_eq]

/-! The operations. -/

/-- What comes between SUSPEND and RESUME is dropped (R163, R170, R171). -/
theorem execAll_suspend_sample_resume (v : Sample) {s : State} (h : s.susp = false) :
    execAll [.suspend, .sample v, .resume] s = .next (s.setRdata 0) := by
  have hdropped := exec_sample_of_disabled (s := (s.setSusp true).setRdata 0) (.inl rfl) v
  rw [execAll_cons (exec_suspend s), execAll_cons hdropped, execAll_cons (exec_resume _), ← h]
  simp only [execAll, State.setSusp, State.setRdata]

theorem exec_sample_of_throttled {s : State} (v : Sample) (hsusp : s.susp = false) (hrun : s.astate = .run)
    (hskip : s.skipCnt ≠ 0) : exec (.sample v) s = .next ((s.setSkipCnt (s.skipCnt - 1)).setRdata 0) := by
  have hdiscard : s.sample v = s.setSkipCnt (s.skipCnt - 1) :=
    (if_neg (by simp [hsusp, hrun])).trans (if_pos hskip)
  exact congrArg (done · 0) hdiscard

/-- An accepted sample loads the throttle (R164). -/
theorem of_exec_sample_accepted {s t : State} {v : Sample} (haccept : Accepting s)
    (h : exec (.sample v) s = .next t) : t.susp = false ∧ t.skipCnt = s.cfg.skip ∧ t.rdata = 0 := by
  rw [exec_sample_of_accepting v haccept] at h
  obtain ⟨hsusp, -, -⟩ := haccept
  cases h
  exact ⟨by rwa [State.setRdata_susp, State.accept_susp], by rw [State.setRdata_skipCnt, State.accept_skipCnt], rfl⟩

/-- The throttle discards as many samples as `skipCnt` says, each counting it down, and changes nothing else (R164). -/
theorem execAll_samples_throttled {ws : List Sample} (s : State) (hsusp : s.susp = false) (hrun : s.astate = .run)
    (hrdata : s.rdata = 0) (hlen : ws.length ≤ s.skipCnt.toNat) :
    execAll (samples ws) s = .next (s.setSkipCnt (s.skipCnt - BitVec.ofNat 16 ws.length)) := by
  induction ws generalizing s with
  | nil =>
    rw [List.length_nil, BitVec.sub_zero]
    rfl
  | cons w ws ih =>
    rw [List.length_cons] at *
    have hskip : s.skipCnt ≠ 0 := by bv_omega
    have hrest : s.skipCnt - 1 - BitVec.ofNat 16 ws.length = s.skipCnt - BitVec.ofNat 16 (ws.length + 1) := by
      bv_omega
    rw [samples, List.map_cons, execAll_cons (exec_sample_of_throttled w hsusp hrun hskip), ← hrdata, ← hrest]
    exact ih (s.setSkipCnt (s.skipCnt - 1)) hsusp hrun hrdata (by rw [State.setSkipCnt_skipCnt]; bv_omega)

/-- A property is kept by a run of operations when each of their effects keeps it, and the result word is no part of
it. -/
theorem execAll_keeps {P : State → Prop} {is : List Instr} (hrdata : ∀ s r, P s → P (s.setRdata r))
    (heffect : ∀ i ∈ is, ∀ s u, P s → Effect s i u → P u) {s t : State} (hs : P s)
    (h : execAll is s = .next t) : P t := by
  induction is generalizing s with
  | nil =>
    cases h
    exact hs
  | cons i is ih =>
    obtain ⟨u, hexec⟩ := exec_answers_next i s
    rw [execAll_cons hexec] at h
    obtain ⟨u, r, heff, rfl⟩ := exec_effect hexec
    exact ih (fun x hx => heffect x (by simp [hx])) (hrdata u r (heffect i (by simp) s u hs heff)) h

/-- Operations that do not write slot `j` leave what it reads (R64). -/
theorem execAll_read_of_keepsSlot {is : List Instr} {j : Nat} {s t : State} (hs : GlobalInv s)
    (hkeep : keepsSlot j is s = true) (h : execAll is s = .next t) : t.buf.read j = s.buf.read j := by
  induction is generalizing s with
  | nil =>
    cases h
    rfl
  | cons i is ih =>
    obtain ⟨u, hexec⟩ := exec_answers_next i s
    have hu := globalInv_exec hs hexec
    rw [keepsSlot_cons hexec, Bool.and_eq_true, Bool.not_eq_true'] at hkeep
    obtain ⟨hkept, hrest⟩ := hkeep
    rw [execAll_cons hexec] at h
    obtain ⟨u, r, heff, rfl⟩ := exec_effect hexec
    exact (ih hu hrest h).trans (heff.bufferEffect.read_eq hs hkept)

end Sys2Proof.Machine

/-! PROOFS. The window of an edge fire (R136, R174, R201, R203): the capture it opens, how many samples it takes, and
where in it the firing sample stands. -/

namespace Sys2Proof.Machine

open Sys2Proof

theorem mem_samples {vs : List Sample} {i : Instr} (h : i ∈ samples vs) : ∃ v, i = .sample v := by
  obtain ⟨v, -, rfl⟩ := List.mem_map.mp h
  exact ⟨v, rfl⟩

theorem filter_isSample_samples (vs : List Sample) : (samples vs).filter isSample = samples vs := by
  refine List.filter_eq_self.mpr fun i hi => ?_
  obtain ⟨v, rfl⟩ := mem_samples hi
  rfl

/-- A capture under way in a given configuration, with its window at a given start (R33). -/
structure CaptureAt (cfg : Active) (start : BitVec 11) (s : State) : Prop where
  inv : GlobalInv s
  cfg_eq : s.cfg = cfg
  start_eq : s.start = start
  outstanding : s.tstate = .delay ∨ s.tstate = .capturing

theorem CaptureAt.setRdata {cfg : Active} {start : BitVec 11} {s : State} (h : CaptureAt cfg start s) (r : Word) :
    CaptureAt cfg start (s.setRdata r) := by
  obtain ⟨hinv, hcfg, hstart, hcap⟩ := h
  exact ⟨hinv, hcfg, hstart, hcap⟩

/-- Samples do not abandon a capture, nor move its window (R133, R173). -/
theorem CaptureAt.of_execAll_samples {cfg : Active} {start : BitVec 11} {vs : List Sample} {s t : State}
    (hs : CaptureAt cfg start s) (h : execAll (samples vs) s = .next t) : CaptureAt cfg start t := by
  refine execAll_keeps (fun _ r h => h.setRdata r) ?_ hs h
  rintro i hi s u ⟨hinv, hcfg, hstart, hcap⟩ heff
  obtain ⟨v, rfl⟩ := mem_samples hi
  obtain ⟨hcap', hstart', -⟩ := heff.keeps_capture hcap rfl nofun nofun
  exact ⟨globalInv_effect hinv heff, (heff.cfg_eq rfl nofun).trans hcfg, hstart'.trans hstart, hcap'⟩

section EdgeWindow

variable {s : State}

/-- An edge fire opens a capture. -/
theorem captureAt_of_edgeFire (v : Sample) (hs : GlobalInv s) (hrun : s.astate = .run) (hfire : EdgeFireAt s v) :
    CaptureAt s.cfg (s.accept v).start (s.accept v) := by
  have ⟨hcfg, hbuf, _⟩ := hs
  obtain ⟨-, -, htstate⟩ := State.accept_of_edgeFire v hcfg hbuf hfire
  refine ⟨globalInv_accept v hs hrun, s.accept_cfg v, rfl, ?_⟩
  rw [htstate]
  split
  · exact .inr rfl
  · exact .inl rfl

/-- The offset of channel `tch`, group `pre`, in a window (R203). -/
def Active.triggerOffset (c : Active) : Nat := c.tch.toNat + c.pre.toNat * c.nCh.toNat

theorem Active.triggerOffset_lt {c : Active} (hcfg : CfgInv c) : c.triggerOffset < c.nCh.toNat * c.nS.toNat := by
  obtain ⟨-, -, -, htch, hpre, -⟩ := hcfg
  have hgroups := Nat.mul_le_mul_right c.nCh.toNat (Nat.succ_le_of_lt hpre)
  rw [Nat.succ_mul, Nat.mul_comm c.nS.toNat] at hgroups
  rw [Active.triggerOffset]
  omega

theorem Active.triggerOffset_div {c : Active} (hcfg : CfgInv c) : c.triggerOffset / c.nCh.toNat = c.pre.toNat := by
  obtain ⟨⟨hpos, -⟩, -, -, htch, -⟩ := hcfg
  rw [Active.triggerOffset, Nat.add_mul_div_right _ _ hpos, Nat.div_eq_of_lt htch, Nat.zero_add]

/-- Without a delay the window starts as many slots before the firing sample as its offset says (R136, R137). -/
theorem start_add_triggerOffset_mod (v : Sample) (hs : GlobalInv s) (hdly : s.cfg.dly = 0) (hfire : EdgeFireAt s v) :
    ((s.accept v).start.toNat + s.cfg.triggerOffset) % s.bufSize.toNat = s.pivot.toNat := by
  obtain ⟨hcfg, hbuf, -⟩ := hs
  have ⟨_, _, _, hpivot, _⟩ := hbuf
  obtain ⟨hstart, -, -⟩ := State.accept_of_edgeFire v hcfg hbuf hfire
  have hformula := (startFormula_modEq s).add_right s.cfg.triggerOffset
  rw [← hstart, hdly] at hformula
  have hmod : (s.accept v).start.toNat + s.cfg.triggerOffset ≡ s.pivot.toNat [MOD s.bufSize.toNat] := by
    refine Int.natCast_modEq_iff.mp ?_
    have hpivot' : (s.pivot.toNat : Int) + ((0#11).toNat - s.cfg.tch.toNat - s.cfg.pre.toNat * s.cfg.nCh.toNat) +
        s.cfg.triggerOffset = s.pivot.toNat := by
      rw [Active.triggerOffset, BitVec.toNat_zero]
      push_cast
      ring
    exact hpivot' ▸ hformula
  exact Eq.trans hmod (Nat.mod_eq_of_lt hpivot)

/-- Without a delay the window is complete before `pivot` is back at the firing sample's slot (R174). -/
theorem edgeCompletionCount_lt (hs : GlobalInv s) (hdly : s.cfg.dly = 0) :
    edgeCompletionCount s < s.bufSize.toNat := by
  have hlt (gap : Int) := Int.emod_lt_of_pos gap hs.bufSize_pos
  have hnonneg (gap : Int) := Int.emod_nonneg gap hs.bufSize_pos.ne'
  rw [edgeCompletionCount_eq, hdly, leastCount]
  simp only [BitVec.ofNat_eq_ofNat, BitVec.toNat_zero, Nat.cast_zero, zero_mul, zero_add]
  rw [Int.toNat_lt (hnonneg _)]
  exact hlt _

end EdgeWindow

/-- The configuration fixes the size of a buffer in order (R24). -/
theorem bufSize_eq_of_cfg_eq {s t : State} (hs : BufInv s) (ht : BufInv t) (hcfg : t.cfg = s.cfg) :
    t.bufSize = s.bufSize := by
  rw [← ofNat_mul_eq_bufSize hs, ← ofNat_mul_eq_bufSize ht, hcfg]

/-- The slot of an accepted sample holds it as long as fewer than `bufSize` samples follow (R64, R113). -/
theorem read_slot_of_few_samples {v : Sample} {ws : List Sample} {s t : State} (hs : GlobalInv s)
    (haccept : Accepting s) (hfew : ws.length < s.bufSize.toNat)
    (h : execAll (samples ws) ((s.accept v).setRdata 0) = .next t) : t.buf.read s.pivot.toNat = v := by
  obtain ⟨u, hexec, hback⟩ := Proofs.sampledSlotReadsBack v s hs haccept
  have hinv := globalInv_exec hs hexec
  obtain rfl : u = (s.accept v).setRdata 0 := done_eq_next (hexec.symm.trans (exec_sample_of_accepting v haccept)).symm
  obtain ⟨hcfg, hbuf, -⟩ := hs
  have ⟨_, _, _, hlt, _⟩ := hbuf
  have hindex : (BitVec.ofNat 24 s.pivot.toNat).toNat % s.bufSize.toNat = s.pivot.toNat := by
    rw [BitVec.toNat_ofNat, Nat.mod_eq_of_lt (a := s.pivot.toNat) (by omega), Nat.mod_eq_of_lt hlt]
  obtain ⟨-, hkeeps⟩ := hback (samples ws) _ hindex
  have hkeep := hkeeps (fun i hi => by obtain ⟨w, rfl⟩ := mem_samples hi; exact ⟨rfl, nofun, nofun⟩)
    (by rwa [filter_isSample_samples, samples, List.length_map])
  rw [execAll_read_of_keepsSlot hinv hkeep h, State.setRdata_buf, State.read_accept v _ hcfg hbuf, if_pos rfl]

/-- The RDWIN word as a number, from its fields (R201). -/
theorem State.windowWord_toNat (s : State) (i : Imm24) :
    (s.windowWord i).toNat = (s.buf.read (s.windowSlot i)).toNat + 2 ^ 10 * (s.chanOf (s.windowSlot i) % 2 ^ 3) +
      2 ^ 13 * (s.groupOf i % 2 ^ 11) + 2 ^ 31 * s.capRdy.toNat := by
  simp only [State.windowWord, append_toNat, BitVec.toNat_ofBool, BitVec.toNat_ofNat, BitVec.ofNat_eq_ofNat,
    Nat.zero_mod]
  omega

/-- An offset inside the window is its own index (R63). -/
theorem State.index_of_lt {s : State} {i : Imm24} (hi : i.toNat < s.bufSize.toNat) : s.index i = i.toNat := by
  rw [State.index, norm_natCast, Nat.mod_eq_of_lt hi]

/-- What RDWIN answers for the offset of channel `tch`, group `pre`, of a complete window (R201, R203). -/
theorem windowWord_triggerOffset_toNat {s : State} {j : Nat} (hcfg : CfgInv s.cfg) (hbuf : BufInv s)
    (hready : s.astate = .ready) (hslot : (s.start.toNat + s.cfg.triggerOffset) % s.bufSize.toNat = j)
    (halign : j % s.cfg.nCh.toNat = s.cfg.tch.toNat) :
    (s.windowWord (BitVec.ofNat 24 s.cfg.triggerOffset)).toNat =
      (s.buf.read j).toNat + 2 ^ 10 * s.cfg.tch.toNat + 2 ^ 13 * s.cfg.pre.toNat + 2 ^ 31 := by
  have hlt := Active.triggerOffset_lt hcfg
  obtain ⟨-, hsize, -⟩ := hbuf
  rw [← hsize] at hlt
  have hoffset : (BitVec.ofNat 24 s.cfg.triggerOffset).toNat = s.cfg.triggerOffset := by
    rw [BitVec.toNat_ofNat, Nat.mod_eq_of_lt (by omega)]
  have hslot' : s.windowSlot (BitVec.ofNat 24 s.cfg.triggerOffset) = j := by
    rw [State.windowSlot_eq s (by rwa [hoffset]), hoffset, hslot]
  have hgroup : s.groupOf (BitVec.ofNat 24 s.cfg.triggerOffset) = s.cfg.pre.toNat := by
    rw [State.groupOf, State.index_of_lt (by rwa [hoffset]), hoffset, Active.triggerOffset_div hcfg]
  rw [State.windowWord_toNat, hslot', hgroup, State.chanOf, halign, s.capRdy_iff.mpr hready,
    Nat.mod_eq_of_lt s.cfg.tch.isLt, Nat.mod_eq_of_lt s.cfg.pre.isLt]
  rfl

end Sys2Proof.Machine

/-! PROOFS. The statements about the acquisition controller: the gate, the throttle, suspension, ACKCAP, and the window
an edge fire fills. -/

namespace Sys2Proof.Proofs

open Sys2Proof Sys2Proof.Machine

/-- Settles O36: the gate drops the sample, and the result word is set. -/
theorem sampleIsDroppedWhileDisabled : Obligations.SampleIsDroppedWhileDisabled :=
  fun v _ hoff => exec_sample_of_disabled hoff v

/-- Settles O34: each operation writes `susp` and the result word; the worked examples follow from the gate. -/
theorem suspendAndResumeWriteOneBit : Obligations.SuspendAndResumeWriteOneBit := by
  refine ⟨by decide, by decide, fun s => ⟨exec_suspend s, exec_resume s⟩,
    fun _ hsusp => execAll_suspend_sample_resume 5 hsusp, ?_⟩
  exact ⟨_, rfl, by decide⟩

/-- Settles O35: the three resets of a held window are what ACKCAP writes, and they give `bufSize` its own value. -/
theorem ackcapResetsAReadyWindow : Obligations.AckcapResetsAReadyWindow := by
  refine ⟨by decide, fun s hs hready => ⟨_, exec_ackcap_of_ready hready, ?slots, ?live, ?size, ?kept⟩,
    fun _ => exec_ackcap_of_run⟩
  case slots => simp
  case live => simp
  case size =>
    obtain ⟨-, hbuf, -⟩ := hs
    simp [ofNat_mul_eq_bufSize hbuf]
  case kept =>
    rw [State.captureReset_eq, State.setRdata]

/-- Settles O37: an accepted sample loads the throttle with `skip`, and the samples after it count it down to 0. -/
theorem throttleDiscardsThenAccepts : Obligations.ThrottleDiscardsThenAccepts := by
  refine ⟨fun v s => exec_sample_of_throttled v, fun v ws s t haccept hexec hrun hlen => ?_⟩
  obtain ⟨hsusp, hload, hrdata⟩ := of_exec_sample_accepted haccept hexec
  have hrest := execAll_samples_throttled t hsusp hrun hrdata (by rwa [hload])
  have hcount : (t.skipCnt - BitVec.ofNat 16 ws.length).toNat = s.cfg.skip.toNat - ws.length := by
    rw [hload]
    bv_omega
  refine ⟨_, hrest, rfl, hcount, fun hall => ⟨hsusp, hrun, BitVec.eq_of_toNat_eq ?_⟩⟩
  exact hcount.trans (by simp [hall])

/-- Settles O56: the fire sets the count of R174, and the samples after it count it down. -/
theorem edgeCaptureCompletesAfterTheStatedCount : Obligations.EdgeCaptureCompletesAfterTheStatedCount := by
  intro v ws s hs haccept hskip hfire hlen
  have hexec := exec_sample_of_accepting v haccept
  obtain ⟨hsusp, hrun, -⟩ := haccept
  obtain ⟨hinv, -, -, hcap⟩ := (captureAt_of_edgeFire v hs hrun hfire).setRdata 0
  rw [← samplesLeft_accept_of_edgeFire v hs hrun hfire, ← samplesLeft_setRdata _ 0] at hlen ⊢
  obtain ⟨t, hrest, hready⟩ := execAll_samples_ready_iff hinv hcap (by rwa [State.setRdata_susp, State.accept_susp])
    (by rwa [State.setRdata_skipCnt, State.accept_skipCnt]) (by rwa [State.setRdata_cfg, State.accept_cfg]) hlen
  exact ⟨t, (execAll_cons hexec).trans hrest, hready⟩

/-- Settles O58: the window starts as many slots before the firing sample as the offset says, and it is complete before
a sample comes to that slot again. -/
theorem edgeCaptureHoldsTheFiringSample : Obligations.EdgeCaptureHoldsTheFiringSample := by
  intro v ws s hs haccept hskip hdly hfire hlen
  have hexec := exec_sample_of_accepting v haccept
  have ⟨_, hrun, _⟩ := haccept
  obtain ⟨t, hall, hready⟩ := edgeCaptureCompletesAfterTheStatedCount v ws s hs haccept hskip hfire hlen.le
  rw [hlen, eq_self, iff_true] at hready
  have hrest : execAll (samples ws) ((s.accept v).setRdata 0) = .next t := (execAll_cons hexec).symm.trans hall
  have hopen := captureAt_of_edgeFire v hs hrun hfire
  obtain ⟨⟨htinv, htbuf, -⟩, htcfg, hstart, -⟩ := (hopen.setRdata 0).of_execAll_samples hrest
  have hvalue := read_slot_of_few_samples hs haccept (hlen.trans_lt (edgeCompletionCount_lt hs hdly)) hrest
  have hslot := start_add_triggerOffset_mod v hs hdly hfire
  obtain ⟨-, hbuf, -⟩ := hs
  rw [← hstart, ← htcfg, ← bufSize_eq_of_cfg_eq hbuf htbuf htcfg] at hslot
  have halign : s.pivot.toNat % t.cfg.nCh.toNat = t.cfg.tch.toNat := by
    obtain ⟨-, -, -, -, -, halign, -⟩ := hbuf
    obtain ⟨-, hch, -⟩ := hfire
    rw [htcfg, halign, hch]
  refine ⟨t, _, hall, rfl, ?_⟩
  rw [State.setRdata_rdata, ← htcfg, ← hvalue]
  exact windowWord_triggerOffset_toNat htinv htbuf hready hslot halign

end Sys2Proof.Proofs

/-! PROOFS. The clamp field by field, with the fields that only their width bounds, and that the clamp leaves a legal
configuration as it is (R183, R184). -/

namespace Sys2Proof.Machine

open Sys2Proof

/-- Between ordered bounds it does not matter which bound is applied first. -/
theorem clamp_eq_max_min {v lo hi : Nat} (h : lo ≤ hi) : clamp v lo hi = max lo (min v hi) := by
  rw [clamp_eq v lo hi h]
  omega

theorem TrigMode.code_ofCode {n : Nat} (h : n ≤ 4) : (TrigMode.ofCode n).code.toNat = n := by
  interval_cases n <;> rfl

theorem TrigMode.ofCode_code (m : TrigMode) : TrigMode.ofCode m.code.toNat = m := by
  cases m <;> rfl

section Clamp

variable (r : Staged)

theorem clampRequest_mode_code_toNat : (clampRequest r).mode.code.toNat = min r.mode.toNat 4 :=
  TrigMode.code_ofCode (Nat.min_le_right _ _)

theorem clampRequest_thr_toNat : (clampRequest r).thr.toNat = min r.thr.toNat 1023 :=
  Nat.mod_eq_of_lt (show min _ 1023 < 1024 by omega)

theorem clampRequest_res_toNat : (clampRequest r).res.toNat = min r.res.toNat 1 :=
  Nat.mod_eq_of_lt (show min _ 1 < 2 by omega)

theorem clampRequest_skip_toNat : (clampRequest r).skip.toNat = min r.skip.toNat 65535 :=
  Nat.mod_eq_of_lt (show min _ 65535 < 65536 by omega)

end Clamp

section WriteBack

variable (c : Active)

/-! A staged register holds the number of the active field it is written back from (R184). -/

@[simp] theorem Active.toStaged_nCh_toNat : c.toStaged.nCh.toNat = c.nCh.toNat :=
  BitVec.toNat_setWidth_of_le (by decide)
@[simp] theorem Active.toStaged_period_toNat : c.toStaged.period.toNat = c.period.toNat :=
  BitVec.toNat_setWidth_of_le (by decide)
@[simp] theorem Active.toStaged_mode_toNat : c.toStaged.mode.toNat = c.mode.code.toNat :=
  BitVec.toNat_setWidth_of_le (by decide)
@[simp] theorem Active.toStaged_tch_toNat : c.toStaged.tch.toNat = c.tch.toNat :=
  BitVec.toNat_setWidth_of_le (by decide)
@[simp] theorem Active.toStaged_thr_toNat : c.toStaged.thr.toNat = c.thr.toNat :=
  BitVec.toNat_setWidth_of_le (by decide)
@[simp] theorem Active.toStaged_pre_toNat : c.toStaged.pre.toNat = c.pre.toNat :=
  BitVec.toNat_setWidth_of_le (by decide)
@[simp] theorem Active.toStaged_dly_toNat : c.toStaged.dly.toNat = c.dly.toNat :=
  BitVec.toNat_setWidth_of_le (by decide)
@[simp] theorem Active.toStaged_nS_toNat : c.toStaged.nS.toNat = c.nS.toNat :=
  BitVec.toNat_setWidth_of_le (by decide)
@[simp] theorem Active.toStaged_res_toNat : c.toStaged.res.toNat = c.res.toNat :=
  BitVec.toNat_setWidth_of_le (by decide)
@[simp] theorem Active.toStaged_skip_toNat : c.toStaged.skip.toNat = c.skip.toNat :=
  BitVec.toNat_setWidth_of_le (by decide)

end WriteBack

/-- A legal configuration, written back and requested again, is its own clamp (R183, R184). -/
theorem clampRequest_toStaged {c : Active} (hc : CfgInv c) : clampRequest c.toStaged = c := by
  obtain ⟨⟨hnChLow, hnChHigh⟩, hnSLow, hfit, htch, hpre, hthr, hdly, ⟨hperLow, hperHigh⟩, hmode, hres, hskip⟩ := hc
  have hnSHigh : c.nS.toNat ≤ 1200 / c.nCh.toNat := (Nat.le_div_iff_mul_le hnChLow).mpr (by rwa [Nat.mul_comm])
  simp [clampRequest, clamp_of_mem hnChLow hnChHigh, clamp_of_mem hnSLow hnSHigh, clamp_of_mem hperLow hperHigh,
    Nat.min_eq_left hmode, Nat.min_eq_left (Nat.le_sub_one_of_lt htch), Nat.min_eq_left hthr,
    Nat.min_eq_left (Nat.le_sub_one_of_lt hpre), Nat.min_eq_left hdly, Nat.min_eq_left hres,
    Nat.min_eq_left hskip, TrigMode.ofCode_code]

end Sys2Proof.Machine

/-! PROOFS. The configuration operations (R181 to R188): the record each of them leaves, and APPLY's flags. -/

namespace Sys2Proof.Machine

open Sys2Proof

theorem stageField_eq (f : CfgField) (imm : Imm24) (s : State) :
    stageField f imm s = .next { s with staged := s.staged.set f imm, rdata := 0 } := rfl

theorem readField_active (f : CfgField) (s : State) :
    readField f false s = .next { s with rdata := s.cfg.word f } := rfl

theorem readField_staged (f : CfgField) (s : State) :
    readField f true s = .next { s with rdata := (s.staged.get f).setWidth 32 } := rfl

theorem exec_apply (fbr : Bool) (s : State) : exec (.apply fbr) s =
    .next ((s.applyConfig fbr (clampRequest s.staged)).setRdata (s.applyResult fbr (clampRequest s.staged))) := rfl

theorem exec_reset (s : State) : exec .reset s = .next (s.resetEngine.setRdata 0) := rfl

section ApplyConfig

variable {s : State} {fbr : Bool} (new : Active)

theorem State.applyConfig_of_clear (h : s.bufResetNeeded fbr new = true) :
    s.applyConfig fbr new = (s.activate new).captureReset := by
  simp only [State.applyConfig, if_pos h, State.captureReset]

theorem State.applyConfig_of_keep (h : s.bufResetNeeded fbr new = false) :
    s.applyConfig fbr new = (s.activate new).trigReset.acqReset := by
  simp only [State.applyConfig, h, if_neg Bool.false_ne_true]

/-- Whether or not the buffer is reset, APPLY activates, writes back and restarts the capture (R182, R184, R185), and it
leaves suspension, the sticky flag and the ports as they are. -/
theorem State.applyConfig_restarts (s : State) (fbr : Bool) : ∃ u : State,
    s.applyConfig fbr new = u.trigReset.acqReset ∧ u.cfg = new ∧ u.staged = new.toStaged ∧ u.susp = s.susp ∧
      u.ill = s.ill ∧ u.inputs = s.inputs ∧ u.arbSeq = s.arbSeq := by
  cases h : s.bufResetNeeded fbr new with
  | true => exact ⟨(s.activate new).bufReset, s.applyConfig_of_clear new h, by simp⟩
  | false => exact ⟨s.activate new, s.applyConfig_of_keep new h, by simp⟩

@[simp] theorem State.applyConfig_cfg : (s.applyConfig fbr new).cfg = new := by
  obtain ⟨u, hu, hcfg, -⟩ := s.applyConfig_restarts new fbr
  simp [hu, hcfg]

@[simp] theorem State.applyConfig_staged : (s.applyConfig fbr new).staged = new.toStaged := by
  obtain ⟨u, hu, -, hstaged, -⟩ := s.applyConfig_restarts new fbr
  simp [hu, hstaged]

end ApplyConfig

/-- APPLY's flags as a number (R187): bit 2 for a change of `res`, bit 1 always, bit 0 for a buffer reset. -/
theorem State.applyResult_toNat (s : State) (fbr : Bool) :
    (s.applyResult fbr (clampRequest s.staged)).toNat =
      (if (clampRequest s.staged).res ≠ s.cfg.res then 4 else 0) + 2 + (if ApplyResetsBuffer fbr s then 1 else 0) := by
  have hres : (s.resChanged (clampRequest s.staged)).toNat =
      if (clampRequest s.staged).res ≠ s.cfg.res then 1 else 0 := by
    simp [State.resChanged, Bool.toNat, bne]
  have hclear : (s.bufResetNeeded fbr (clampRequest s.staged)).toNat = if ApplyResetsBuffer fbr s then 1 else 0 := by
    simp only [← s.bufResetNeeded_iff fbr, Bool.toNat, Bool.cond_eq_ite]
  simp only [State.applyResult, append_toNat, BitVec.toNat_ofBool, hres, hclear, BitVec.ofNat_eq_ofNat,
    BitVec.toNat_ofNat]
  split <;> omega

end Sys2Proof.Machine

/-! PROOFS. The statements about the configuration: staging, APPLY and RDCFG. -/

namespace Sys2Proof.Proofs

open Sys2Proof Sys2Proof.Machine

/-- Settles O19: the active configuration is the clamp of the request, which is legal, and a legal configuration is its
own clamp. -/
theorem applyClampsTheRequest : Obligations.ApplyClampsTheRequest := by
  intro fbr s
  refine ⟨_, exec_apply fbr s, ?_⟩
  simp only [State.setRdata_cfg, State.applyConfig_cfg, State.setRdata_staged, State.applyConfig_staged]
  generalize s.staged = r
  have hlegal := cfgInv_clampRequest r
  obtain ⟨hcap, -⟩ := capacity_div_nCh_bounds r
  exact ⟨(clampRequest_nCh_toNat r).trans (clamp_eq_max_min (by decide)),
    (clampRequest_period_toNat r).trans (clamp_eq_max_min (by decide)), clampRequest_mode_code_toNat r,
    (clampRequest_nS_toNat r).trans (clamp_eq_max_min hcap), clampRequest_tch_toNat r, clampRequest_thr_toNat r,
    clampRequest_pre_toNat r, clampRequest_dly_toNat r, clampRequest_res_toNat r, clampRequest_skip_toNat r,
    hlegal, clampRequest_toStaged hlegal⟩

/-- Settles O21: the restart is common to both cases, and the buffer and the live registers are those of the reset or of
the state before. -/
theorem applyResetsAndReports : Obligations.ApplyResetsAndReports := by
  intro fbr s
  obtain ⟨u, hu, hcfg, -, hsusp, hill, hinputs, hseq⟩ := s.applyConfig_restarts (clampRequest s.staged) fbr
  refine ⟨_, exec_apply fbr s, ?_, ?_, ?_, ?_, ?_, ?_, ?_, ?_, ?_, ?_, ?_, ?buffer, ?flags⟩
  case flags =>
    rw [State.setRdata_rdata, State.setRdata_cfg, State.applyConfig_cfg]
    exact s.applyResult_toNat fbr
  case buffer =>
    rw [State.setRdata_cfg, State.applyConfig_cfg]
    split
    case isTrue hreset =>
      have hclear := (s.bufResetNeeded_iff fbr).mpr hreset
      obtain ⟨-, ⟨-, hsize, -⟩, -⟩ :=
        globalInv_captureReset (s := s.activate (clampRequest s.staged)) (cfgInv_clampRequest s.staged)
      rw [s.applyConfig_of_clear _ hclear]
      simpa using hsize
    case isFalse hkeep =>
      rw [s.applyConfig_of_keep _ (by rwa [← Bool.not_eq_true, s.bufResetNeeded_iff fbr])]
      simp
  -- what both cases share: the restart, and what the activation leaves
  all_goals simp [hu, hcfg, hsusp, hill, hinputs, hseq]

/-- Settles O18: every form of WRCFG stages its operand in the field of its name. -/
theorem wrcfgStagesTheOperand : Obligations.WrcfgStagesTheOperand :=
  fun imm s => ⟨stageField_eq .nCh imm s, stageField_eq .period imm s, stageField_eq .mode imm s,
    stageField_eq .tch imm s, stageField_eq .thr imm s, stageField_eq .pre imm s, stageField_eq .dly imm s,
    stageField_eq .nS imm s, stageField_eq .res imm s, stageField_eq .skip imm s⟩

/-- Settles O20: APPLY writes its configuration back, and the registers at reset are those of the configuration at
reset. -/
theorem stagedEqualsActiveAfterApplyAndReset : Obligations.StagedEqualsActiveAfterApplyAndReset := by
  refine ⟨fun fbr s => ⟨_, exec_apply fbr s, fun f => ?_⟩, fun s => ⟨_, exec_reset s, fun f => ?_⟩⟩
  · rw [State.setRdata_staged, State.setRdata_cfg, State.applyConfig_staged, State.applyConfig_cfg]
    exact Active.toStaged_word _ f
  · rw [State.setRdata_staged, State.setRdata_cfg, State.resetEngine_staged, State.resetEngine_cfg, ← toStaged_default]
    exact Active.toStaged_word _ f

/-- Settles O22: every form of RDCFG reads the field of its name, active or staged. -/
theorem rdcfgReturnsTheField : Obligations.RdcfgReturnsTheField :=
  fun s => ⟨readField_active .nCh s, readField_staged .nCh s, readField_active .period s, readField_staged .period s,
    readField_active .mode s, readField_staged .mode s, readField_active .tch s, readField_staged .tch s,
    readField_active .thr s, readField_staged .thr s, readField_active .pre s, readField_staged .pre s,
    readField_active .dly s, readField_staged .dly s, readField_active .nS s, readField_staged .nS s,
    readField_active .res s, readField_staged .res s, readField_active .skip s, readField_staged .skip s⟩

end Sys2Proof.Proofs

/-! PROOFS. What RDWIN, RDTS, RDLIVE and ACKLIVE answer (R201, R205, R207, R208): the index of a window offset, the
group and the slot it names, and the range of the timestamp with the two halves it is read in. -/

namespace Sys2Proof.Machine

open Sys2Proof

theorem exec_rdwin (i : Imm24) (s : State) : exec (.rdwin i) s = .next (s.setRdata (s.windowWord i)) := rfl

theorem exec_rdts_low (i : Imm24) (s : State) :
    exec (.rdts false i) s = .next (s.setRdata ((s.timestamp64 i).extractLsb' 0 32)) := rfl

theorem exec_rdts_high (i : Imm24) (s : State) :
    exec (.rdts true i) s = .next (s.setRdata ((s.timestamp64 i).extractLsb' 32 32)) := rfl

/-- The six forms of RDLIVE are this read (R207). -/
theorem readLive_eq (c : Nat) (s : State) : readLive c s = .next (s.setRdata ((s.live.get c).setWidth 32)) := rfl

theorem exec_acklive (s : State) : exec .acklive s = .next ((s.setLiveAvail false).setRdata 0) := rfl

/-- A legal configuration has at most 1200 samples per channel (R23). -/
theorem CfgInv.nS_le {c : Active} (hcfg : CfgInv c) : c.nS.toNat ≤ 1200 := by
  obtain ⟨⟨hnCh, -⟩, -, hfit, -⟩ := hcfg
  exact (Nat.le_mul_of_pos_left _ hnCh).trans hfit

section WindowOffset

variable (s : State) (i : Imm24)

/-- An offset is reduced modulo `bufSize`, whether or not it lies inside the window (R63). -/
theorem State.index_eq_mod : s.index i = i.toNat % s.bufSize.toNat := norm_natCast _ _

theorem State.windowSlot_eq_mod : s.windowSlot i = (s.start.toNat + s.index i) % s.bufSize.toNat :=
  norm_add_natCast _ _ _

variable {s} {i}

/-- A window holds `nS` groups (R24, R202). -/
theorem State.groupOf_lt (hbuf : BufInv s) : s.groupOf i < s.cfg.nS.toNat := by
  have hindex : s.index i < s.bufSize.toNat := s.index_eq_mod i ▸ Nat.mod_lt _ hbuf.bufSize_pos
  obtain ⟨-, hsize, -⟩ := hbuf
  exact Nat.div_lt_of_lt_mul (hsize ▸ hindex)

/-- A slot's channel number fits the three bits it has in the RDWIN word (R118, R201). -/
theorem State.chanOf_lt (hcfg : CfgInv s.cfg) (j : Nat) : s.chanOf j < 2 ^ 3 := by
  obtain ⟨⟨hnCh, _⟩, -⟩ := hcfg
  have := Nat.mod_lt j hnCh
  rw [State.chanOf]
  omega

/-- The range of the timestamp for this hardware: the number of groups away from the trigger lies between -1199 and
3199, and the period between 1 and 900000 (R204). -/
theorem State.timestamp_bounds (hcfg : CfgInv s.cfg) (hbuf : BufInv s) :
    -1079100000 ≤ s.timestamp i ∧ s.timestamp i ≤ 2879100000 := by
  have hgroup := State.groupOf_lt (i := i) hbuf
  have hnS := CfgInv.nS_le hcfg
  obtain ⟨-, -, -, -, hpre, -, hdly, ⟨-, hperiod⟩, -⟩ := hcfg
  rw [State.timestamp]
  generalize hd : (s.groupOf i : Int) - (s.cfg.pre.toNat : Int) + (s.cfg.dly.toNat : Int) = d
  generalize hp : (s.cfg.period.toNat : Int) = p
  have hlow : 0 ≤ (d + 1199) * p := mul_nonneg (by omega) (by omega)
  have hhigh : 0 ≤ (3199 - d) * p := mul_nonneg (by omega) (by omega)
  rw [add_mul] at hlow
  rw [sub_mul] at hhigh
  omega

end WindowOffset

/-- The high half of a 64-bit number between `-2^32` and `2^32` is its sign (R205). -/
theorem extractLsb'_high_ofInt {x : Int} (hlow : -2 ^ 32 ≤ x) (hhigh : x < 2 ^ 32) :
    (BitVec.ofInt 64 x).extractLsb' 32 32 = if x < 0 then 0xFFFFFFFF else 0 := by
  apply BitVec.eq_of_toNat_eq
  rw [BitVec.extractLsb'_toNat, BitVec.toNat_ofInt, Nat.shiftRight_eq_div_pow]
  split
  · show _ = 0xFFFFFFFF
    omega
  · show _ = 0
    omega

end Sys2Proof.Machine

/-! PROOFS. The statements about the readout: the window word, the timestamp, the live registers and their flag. -/

namespace Sys2Proof.Proofs

open Sys2Proof Sys2Proof.Machine

/-- Settles O27: the fields of the window word add up to its number, and under the invariants channel and group fit the
bits they have. -/
theorem rdwinReturnsTheWindowWord : Obligations.RdwinReturnsTheWindowWord := by
  intro i s ⟨hcfg, hbuf, _⟩
  refine ⟨s.windowWord i, exec_rdwin i s, ?_⟩
  have hgroup : s.groupOf i < 2 ^ 11 := (State.groupOf_lt hbuf).trans s.cfg.nS.isLt
  have hvalid : s.capRdy.toNat = if s.astate = .ready then 1 else 0 := by
    simp [← State.capRdy_iff, Bool.toNat]
  rw [State.windowWord_toNat, Nat.mod_eq_of_lt (State.chanOf_lt hcfg _), Nat.mod_eq_of_lt hgroup, hvalid,
    State.chanOf, State.groupOf, State.windowSlot_eq_mod, State.index_eq_mod]

/-- Settles O28: the halves are those of one 64-bit word, and the timestamp's range fits 64 signed bits and, its sign
apart, 32. -/
theorem rdtsReturnsTheTimestamp : Obligations.RdtsReturnsTheTimestamp := by
  intro i s ⟨hcfg, hbuf, _⟩
  obtain ⟨hlow, hhigh⟩ := State.timestamp_bounds (i := i) hcfg hbuf
  refine ⟨_, _, s.timestamp i, exec_rdts_low i s, exec_rdts_high i s, ?formula, ?value, hlow, hhigh, ?sign⟩
  case formula => rw [State.timestamp, State.groupOf, State.index_eq_mod]
  case value =>
    have hhalves : (s.timestamp64 i).extractLsb' 32 32 ++ (s.timestamp64 i).extractLsb' 0 32 = s.timestamp64 i :=
      BitVec.extractLsb'_append_extractLsb'
    rw [hhalves]
    exact BitVec.toInt_ofInt_eq_self (by decide) (by omega) (by omega)
  case sign => exact extractLsb'_high_ofInt (by omega) (by omega)

/-- Settles O29: every form of RDLIVE reads the register of its number, and the registers of unused channels are part
of the invariants. -/
theorem rdliveReturnsTheChannel : Obligations.RdliveReturnsTheChannel := by
  refine ⟨fun s => ⟨readLive_eq 0 s, readLive_eq 1 s, readLive_eq 2 s, readLive_eq 3 s, readLive_eq 4 s,
    readLive_eq 5 s⟩, fun s ⟨_, hbuf, _⟩ => ?_, by decide, by decide⟩
  obtain ⟨-, -, -, -, -, -, hunused⟩ := hbuf
  exact hunused

/-- Settles O32: ACKLIVE writes `liveAvail` and the result word. -/
theorem ackliveClearsTheFlag : Obligations.AckliveClearsTheFlag :=
  ⟨by decide, exec_acklive⟩

end Sys2Proof.Proofs

/-! PROOFS. A cycle in which nothing is presented (R220, R250), and what the system operations leave (R220 to R223). -/

namespace Sys2Proof.Machine

open Sys2Proof

theorem exec_nop (s : State) : exec .nop s = .next (s.setRdata 0) := rfl

/-- An ILLEGAL word is recorded and answers 0 (R223). -/
theorem performWord_of_illegal_eq {w : Word} (s : State) (h : decode w = none) :
    performWord w s = .next (s.recordIllegal.setRdata 0) :=
  performWord_of_illegal s h

/-- The arbiter chooses no port of a quiet instant (R69). -/
theorem Instant.choose_of_quiet {t : Instant} (seq : Nat) (h : t.quiet = true) : t.choose seq = none := by
  obtain ⟨⟨hsample, htrig⟩, hhost⟩ : (t.sample = none ∧ t.trig = false) ∧ t.host = none := by
    simpa [Instant.quiet] using h
  rw [Instant.choose_eq_find, List.find?_eq_none]
  intro p _
  cases p <;> simp [hsample, htrig, hhost]

/-- With nothing presented any more, the idle word is taken and the ports stay as they are (log 3). -/
theorem State.fetch_of_nil {s : State} (hs : s.inputs = []) : s.fetchWord = idleWord ∧ s.afterFetch = s := by
  simp only [State.fetchWord, State.afterFetch, hs, and_self]

/-- From a quiet instant the idle word is taken, and the instant is past (log 3). -/
theorem State.fetch_of_quiet {s : State} {t : Instant} {ts : List Instant} (hs : s.inputs = t :: ts)
    (hquiet : t.quiet = true) : s.fetchWord = idleWord ∧ s.afterFetch = s.setInputs ts := by
  simp only [State.fetchWord, State.afterFetch, hs, Instant.choose_of_quiet s.arbSeq hquiet, and_self]

theorem step_of_idle {s u : State} (h : s.fetchWord = idleWord ∧ s.afterFetch = u) :
    step s = .next (u.setRdata 0) := by
  obtain ⟨hword, hafter⟩ := h
  rw [step, hword, hafter, performWord_idleWord]

/-- RESET assigns every register of the engine: of the state before it, it leaves the result word and the port fields
(R221, log 11). -/
theorem State.resetEngine_eq (s : State) : s.resetEngine =
    { State.reset with rdata := s.rdata, inputs := s.inputs, arbSeq := s.arbSeq } := by
  have hsize : BitVec.ofNat 11 (Active.reset.nCh.toNat * Active.reset.nS.toNat) = 2 := by decide
  simp only [State.resetEngine, State.captureReset_eq, State.activate, State.setStaged_staged, State.setStaged_cfg,
    State.setCfg_cfg, clampRequest_default, toStaged_default, hsize]
  rfl

end Sys2Proof.Machine

/-! PROOFS. The statements about the system operations: NOP, the cycle in which nothing is presented, RESET and ILLEGAL
words. -/

namespace Sys2Proof.Proofs

open Sys2Proof Sys2Proof.Machine

/-- Settles O8: the word taken, from whichever port, is performed by recording it, and a word presented on the host
port is the word taken. -/
theorem illegalWordSetsOnlyIll : Obligations.IllegalWordSetsOnlyIll := by
  refine ⟨fun s h => performWord_of_illegal_eq s.afterFetch h, fun s _ h => performWord_of_illegal_eq s h,
    fun s w h => ?presented, by decide, by decide⟩
  rw [step, State.fetchWord_presentWord, State.afterFetch_presentWord]
  exact performWord_of_illegal_eq s h

/-- Settles O10: in both cases the word taken is the idle word, which is NOP. -/
theorem quietStepIsNop : Obligations.QuietStepIsNop :=
  ⟨fun _ hs => step_of_idle (State.fetch_of_nil hs),
    fun _ _ _ hs hquiet => step_of_idle (State.fetch_of_quiet hs hquiet)⟩

/-- Settles O13: the result word, which RESET leaves, is set to 0 after it, its value in the reset state. -/
theorem resetKeepsThePorts : Obligations.ResetKeepsThePorts := by
  intro s
  rw [exec_reset, State.resetEngine_eq]
  rfl

/-- Settles O33: the all-zero word is the idle word, and NOP's only effect is the result word. -/
theorem nopChangesNothing : Obligations.NopChangesNothing :=
  ⟨decode_idleWord, exec_nop⟩

end Sys2Proof.Proofs

/-! PROOFS. What the sampling context may touch (R241, R242): of the buffer and of the live registers the place of the
sample, and of the hold its setting. -/

namespace Sys2Proof.Machine

open Sys2Proof

section SamplingContext

variable {s u : State} {i : Instr}

/-- SAMPLE and EXTTRIG are none of the operations that write the configuration, the staged registers, `susp`, `ill` or
`bufSize` (R241, R242). -/
theorem ne_mainLoop_of_samplingContext (hctx : samplingContext i = true) :
    isApply i = false ∧ isWrcfg i = false ∧ i ≠ .reset ∧ i ≠ .ackcap ∧ i ≠ .suspend ∧ i ≠ .resume := by
  cases i with
  | sample | exttrig => simp [isApply, isWrcfg]
  | _ => cases hctx

/-- The sampling context's one way to write a slot is an accepted sample, at the pivot (R112, R242). -/
theorem writesSlot_of_samplingContext {j : Nat} (hctx : samplingContext i = true) (hj : j ≠ s.pivot.toNat) :
    writesSlot j i s = false := by
  cases i with
  | sample v => exact decide_eq_false fun ⟨_, hpivot⟩ => hj hpivot.symm
  | exttrig => rfl
  | _ => cases hctx

/-- The sampling context's one way to write a live register is an accepted sample, at its channel (R165, R242). -/
theorem Effect.live_get_eq {c : Nat} (heff : Effect s i u) (hs : GlobalInv s) (hctx : samplingContext i = true)
    (hc : c ≠ s.curChan.toNat) : u.live.get c = s.live.get c := by
  obtain ⟨hcfg, hbuf, -⟩ := hs
  cases heff with
  | sampleAccepted v => rw [State.live_get_accept v c hcfg hbuf, if_neg hc]
  | exttrigFired => rw [State.fire_live]
  | sampleDropped | sampleThrottled | exttrigDropped | nop | read | suspend | resume | wrcfg | acklive | ackcapRun =>
    rfl
  | applyCleared | applyKept | ackcapReady | reset => cases hctx

/-- The sampling context does not end the hold of a window: READY is left by the main loop alone (R169, R242). -/
theorem Effect.run_of_run (heff : Effect s i u) (hctx : samplingContext i = true) (hrun : u.astate = .run) :
    s.astate = .run := by
  cases heff with
  | sampleAccepted _ haccept =>
    obtain ⟨-, hbefore, -⟩ := haccept
    exact hbefore
  | exttrigFired => rwa [State.fire_astate] at hrun
  | sampleDropped | sampleThrottled | exttrigDropped | nop | read | suspend | resume | wrcfg | acklive | ackcapRun =>
    exact hrun
  | applyCleared | applyKept | ackcapReady | reset => cases hctx

end SamplingContext

end Sys2Proof.Machine

/-! PROOFS. The statement about the exceptions: what the sampling context may touch. -/

namespace Sys2Proof.Proofs

open Sys2Proof Sys2Proof.Machine

/-- Settles O47: the registers of the main loop are kept because the operation is none of their writers, and slots,
live registers and hold by the laws of the sampling context; the result word, set last, is no part of them. -/
theorem samplingContextTouchesOnlyItsOwn : Obligations.SamplingContextTouchesOnlyItsOwn := by
  intro i s t hctx hs h
  obtain ⟨u, r, heff, rfl⟩ := exec_effect h
  obtain ⟨happly, hwrcfg, hreset, hackcap, hsuspend, hresume⟩ := ne_mainLoop_of_samplingContext hctx
  refine ⟨heff.cfg_eq happly hreset, heff.staged_eq happly hreset hwrcfg, heff.susp_eq hsuspend hreset hresume,
    heff.ill_eq hreset, heff.bufSize_eq happly hreset hackcap, ?slots, ?live, heff.run_of_run hctx⟩
  case slots => exact fun j hj => heff.bufferEffect.read_eq hs (writesSlot_of_samplingContext hctx hj)
  case live => exact fun c hc => heff.live_get_eq hs hctx hc

end Sys2Proof.Proofs
